-- ==== Sys2Proof/Word.lean ====
section
/-! DEFINITION. Word.lean: the widths of the spec's words, and the plain data that the environment hands
to the block: transaction words, tick codes, the pins of one clock cycle, host accesses, events. -/

namespace Sys2Proof

/-- A 32-bit register or bus data word (REG_BITS, R7). -/
abbrev Word := BitVec 32

/-- A 40-bit frame: SR or LF (R45, R46). -/
abbrev Frame := BitVec 40

/-- A recorded pulse width in ticks (PW_BITS, R7). -/
abbrev Width := BitVec 16

/-- A packed host transaction word T: W, SZ, OFF, WDATA from the top down (R80). -/
abbrev TxWord := BitVec 41

/-- What the decoder reads: a host transaction, or the state code that selects a tick operation (R2, R90). -/
inductive OpWord where
  | bus  (t : TxWord)
  | tick (code : BitVec 3)
  deriving DecidableEq, Repr, Inhabited

/-- Why a numeral in the opcode table's numbering is no operation word (DESIGN CHOICE, entry 12). -/
inductive DecodeReject where
  /-- A tick row's word has a set bit above the 3-bit state code. Raised by `readTableWord`; safe. -/
  | tickWordTooWide
  /-- A bus row's word has a set bit above the 41-bit transaction word. Raised by `readTableWord`; safe. -/
  | busWordTooWide
  deriving DecidableEq, Repr, Inhabited

/-- The block's input pins in one clock cycle (R20). `req` is the transaction the bus presents, if any;
`ext` is the level that the sensor and the pull-up give the line while the block does not drive it. -/
structure Pins where
  rstN : Bool
  req  : Option TxWord
  ext  : Bool
  deriving DecidableEq, Repr, Inhabited

/-- A host access as the platform sees it, with a full address, before routing (R60). -/
structure Access where
  we    : Bool
  size  : BitVec 2
  addr  : Nat
  wdata : Word
  deriving DecidableEq, Repr, Inhabited

/-- One atomic action of the environment on the block (R9, R10). -/
inductive Event where
  /-- The host bus agent performs one transaction that the platform routed to the block. -/
  | host   (t : TxWord)
  /-- The platform carries a host access with a full address (R60). -/
  | access (a : Access)
  /-- The tick engine performs one tick; the line environment supplies the sampled level (R14). -/
  | tick   (level : Bool)
  /-- Reset (R260). -/
  | reset
  /-- One cycle of `clk` with all input pins (R20, R140). -/
  | cycle  (p : Pins)
  deriving DecidableEq, Repr, Inhabited

/-- The eight registers of the window (R24). -/
inductive Reg where
  | ctrl
  | status
  | cfgTimeout
  | cfgStart
  | data0
  | data1
  | humidity
  | temperature
  deriving DecidableEq, Repr, Inhabited

end Sys2Proof
end

