-- ==== Sys2Proof/Syntax.lean ====
section
/-! DEFINITION. Syntax.lean: the operations of the block, one constructor for each row of opcode_table.json
(R2). Operand names are the fields of R80: `w` = W, `sz` = SZ, `off` = OFF, `wdata` = WDATA. -/

namespace Sys2Proof

inductive Instr where
  -- host bus operations (40_host_operations.md); a read carries the WDATA wires, which it ignores (R80)
  | rdCtrl         (wdata : Word)
  | wrCtrl         (wdata : Word)
  | rdStatus       (wdata : Word)
  | wrStatus       (wdata : Word)
  | rdCfgTimeout   (wdata : Word)
  | wrCfgTimeout   (wdata : Word)
  | rdCfgStart     (wdata : Word)
  | wrCfgStart     (wdata : Word)
  | rdData0        (wdata : Word)
  | wrData0        (wdata : Word)
  | rdData1        (wdata : Word)
  | wrData1        (wdata : Word)
  | rdHumidity     (wdata : Word)
  | wrHumidity     (wdata : Word)
  | rdTemperature  (wdata : Word)
  | wrTemperature  (wdata : Word)
  | rdReserved     (off : BitVec 6) (wdata : Word)
  | wrReserved     (off : BitVec 6) (wdata : Word)
  -- refused transactions (R120)
  | busErrSubword  (w : Bool) (sz : BitVec 2) (off : BitVec 6) (wdata : Word)
  | busErrSz11     (w : Bool) (off : BitVec 6) (wdata : Word)
  | busErrOffOdd   (w : Bool) (off : BitVec 6) (wdata : Word)
  | busErrOffHalf  (w : Bool) (off : BitVec 6) (wdata : Word)
  -- tick operations (R90); `low` is the free low bit of the codes 0b11x
  | tickIdle
  | tickStartLow
  | tickRelease
  | tickWait
  | tickDecode
  | tickFinish
  | tickIllegal    (low : Bool)
  deriving DecidableEq, Repr, Inhabited

end Sys2Proof
end

