-- ==== Sys2Proof/WellFormed.lean ====
section
/-! DEFINITION. WellFormed.lean: the operand values each row of the opcode table admits (R83, R87). -/

namespace Sys2Proof

/-- OFF is an aligned reserved offset, 0x20..0x3C in steps of 4 (R64). -/
def isReservedOffset (off : BitVec 6) : Bool :=
  off.getLsbD 5 && !off.getLsbD 1 && !off.getLsbD 0

/-- The operands are among those the instruction's row of the opcode table admits (R83). Rows that fix every
bit but WDATA admit any WDATA. -/
def wellFormed (i : Instr) : Bool :=
  match i with
  | .rdReserved off _ => isReservedOffset off
  | .wrReserved off _ => isReservedOffset off
  | .busErrSubword _ sz _ _ => !sz.getLsbD 1
  | .busErrOffOdd _ off _ => off.getLsbD 0
  | .busErrOffHalf _ off _ => off.getLsbD 1 && !off.getLsbD 0
  | .busErrSz11 _ _ _ => true
  | .rdCtrl _ => true
  | .wrCtrl _ => true
  | .rdStatus _ => true
  | .wrStatus _ => true
  | .rdCfgTimeout _ => true
  | .wrCfgTimeout _ => true
  | .rdCfgStart _ => true
  | .wrCfgStart _ => true
  | .rdData0 _ => true
  | .wrData0 _ => true
  | .rdData1 _ => true
  | .wrData1 _ => true
  | .rdHumidity _ => true
  | .wrHumidity _ => true
  | .rdTemperature _ => true
  | .wrTemperature _ => true
  | .tickIdle => true
  | .tickStartLow => true
  | .tickRelease => true
  | .tickWait => true
  | .tickDecode => true
  | .tickFinish => true
  | .tickIllegal _ => true

end Sys2Proof
end

