-- ==== Sys2Proof/Decode.lean ====
section
/-! DEFINITION. Decode.lean: the decoder of transaction words and state codes (R80 to R83, R90), the encoder
written from the opcode map of R83, the opcode table's rows as data, and the host syntax's words (R89). -/

namespace Sys2Proof

/-- W = T[40] (R80). -/
def txW (t : TxWord) : Bool := t.getLsbD 40

/-- SZ = T[39:38] (R80). -/
def txSz (t : TxWord) : BitVec 2 := t.extractLsb' 38 2

/-- OFF = T[37:32] (R80). -/
def txOff (t : TxWord) : BitVec 6 := t.extractLsb' 32 6

/-- WDATA = T[31:0] (R80). -/
def txWdata (t : TxWord) : Word := t.extractLsb' 0 32

/-- Packs the four fields of a host transaction into T (R80). -/
def packTx (w : Bool) (sz : BitVec 2) (off : BitVec 6) (wdata : Word) : TxWord :=
  BitVec.ofBool w ++ sz ++ off ++ wdata

/-- The last line of R82's decode order: the register by OFF[4:2], read or write by W. -/
def decodeRegister (w : Bool) (idx : BitVec 3) (wdata : Word) : Instr :=
  match idx.toNat with
  | 0 => if w then .wrCtrl wdata else .rdCtrl wdata
  | 1 => if w then .wrStatus wdata else .rdStatus wdata
  | 2 => if w then .wrCfgTimeout wdata else .rdCfgTimeout wdata
  | 3 => if w then .wrCfgStart wdata else .rdCfgStart wdata
  | 4 => if w then .wrData0 wdata else .rdData0 wdata
  | 5 => if w then .wrData1 wdata else .rdData1 wdata
  | 6 => if w then .wrHumidity wdata else .rdHumidity wdata
  | _ => if w then .wrTemperature wdata else .rdTemperature wdata

/-- R82's decode order over the four fields. The line "misaligned word" is split by OFF[0] into the table's two
rows (R83). -/
def decodeFields (w : Bool) (sz : BitVec 2) (off : BitVec 6) (wdata : Word) : Instr :=
  if sz.getLsbD 1 = false then .busErrSubword w sz off wdata
  else if sz = 0b11#2 then .busErrSz11 w off wdata
  else if off.getLsbD 0 then .busErrOffOdd w off wdata
  else if off.getLsbD 1 then .busErrOffHalf w off wdata
  else if off.getLsbD 5 then (if w then .wrReserved off wdata else .rdReserved off wdata)
  else decodeRegister w (off.extractLsb' 2 3) wdata

/-- Decodes a host transaction (R82). Every transaction word is some operation. -/
def decodeBus (t : TxWord) : Instr :=
  decodeFields (txW t) (txSz t) (txOff t) (txWdata t)

/-- The tick operation a state code selects (R90). -/
def decodeTick (code : BitVec 3) : Instr :=
  match code.toNat with
  | 0 => .tickIdle
  | 1 => .tickStartLow
  | 2 => .tickRelease
  | 3 => .tickWait
  | 4 => .tickDecode
  | 5 => .tickFinish
  | _ => .tickIllegal (code.getLsbD 0)

/-- The decoder. -/
def decode (w : OpWord) : Instr :=
  match w with
  | .bus t => decodeBus t
  | .tick c => decodeTick c

/-- The word access of a register at a fixed offset: SZ = 10 (R83). -/
def encodeAccess (w : Bool) (off : BitVec 6) (wdata : Word) : OpWord :=
  .bus (packTx w 0b10#2 off wdata)

/-- The encoder: the operation word of each instruction, from the opcode map of R83 and the state codes of R90. -/
def encode (i : Instr) : OpWord :=
  match i with
  | .rdCtrl d => encodeAccess false 0x00#6 d
  | .wrCtrl d => encodeAccess true 0x00#6 d
  | .rdStatus d => encodeAccess false 0x04#6 d
  | .wrStatus d => encodeAccess true 0x04#6 d
  | .rdCfgTimeout d => encodeAccess false 0x08#6 d
  | .wrCfgTimeout d => encodeAccess true 0x08#6 d
  | .rdCfgStart d => encodeAccess false 0x0C#6 d
  | .wrCfgStart d => encodeAccess true 0x0C#6 d
  | .rdData0 d => encodeAccess false 0x10#6 d
  | .wrData0 d => encodeAccess true 0x10#6 d
  | .rdData1 d => encodeAccess false 0x14#6 d
  | .wrData1 d => encodeAccess true 0x14#6 d
  | .rdHumidity d => encodeAccess false 0x18#6 d
  | .wrHumidity d => encodeAccess true 0x18#6 d
  | .rdTemperature d => encodeAccess false 0x1C#6 d
  | .wrTemperature d => encodeAccess true 0x1C#6 d
  | .rdReserved off d => encodeAccess false off d
  | .wrReserved off d => encodeAccess true off d
  | .busErrSubword w sz off d => .bus (packTx w sz off d)
  | .busErrSz11 w off d => .bus (packTx w 0b11#2 off d)
  | .busErrOffOdd w off d => encodeAccess w off d
  | .busErrOffHalf w off d => encodeAccess w off d
  | .tickIdle => .tick 0b000#3
  | .tickStartLow => .tick 0b001#3
  | .tickRelease => .tick 0b010#3
  | .tickWait => .tick 0b011#3
  | .tickDecode => .tick 0b100#3
  | .tickFinish => .tick 0b101#3
  | .tickIllegal low => .tick (0b11#2 ++ BitVec.ofBool low)

/-- The row's mnemonic in opcode_table.json. -/
def mnemonic (i : Instr) : String :=
  match i with
  | .rdCtrl _ => "RD_CTRL"
  | .wrCtrl _ => "WR_CTRL"
  | .rdStatus _ => "RD_STATUS"
  | .wrStatus _ => "WR_STATUS"
  | .rdCfgTimeout _ => "RD_CFG_TIMEOUT"
  | .wrCfgTimeout _ => "WR_CFG_TIMEOUT"
  | .rdCfgStart _ => "RD_CFG_START"
  | .wrCfgStart _ => "WR_CFG_START"
  | .rdData0 _ => "RD_DATA0"
  | .wrData0 _ => "WR_DATA0"
  | .rdData1 _ => "RD_DATA1"
  | .wrData1 _ => "WR_DATA1"
  | .rdHumidity _ => "RD_HUMIDITY"
  | .wrHumidity _ => "WR_HUMIDITY"
  | .rdTemperature _ => "RD_TEMPERATURE"
  | .wrTemperature _ => "WR_TEMPERATURE"
  | .rdReserved _ _ => "RD_RESERVED"
  | .wrReserved _ _ => "WR_RESERVED"
  | .busErrSubword _ _ _ _ => "BUS_ERR_SUBWORD"
  | .busErrSz11 _ _ _ => "BUS_ERR_SZ11"
  | .busErrOffOdd _ _ _ => "BUS_ERR_OFF_ODD"
  | .busErrOffHalf _ _ _ => "BUS_ERR_OFF_HALF"
  | .tickIdle => "TICK_IDLE"
  | .tickStartLow => "TICK_START_LOW"
  | .tickRelease => "TICK_RELEASE"
  | .tickWait => "TICK_WAIT"
  | .tickDecode => "TICK_DECODE"
  | .tickFinish => "TICK_FINISH"
  | .tickIllegal _ => "TICK_ILLEGAL"

/-- The rows of format `bus`: mnemonic, match, mask, letter for letter from R83's opcode map. -/
def busRows : List (String × TxWord × TxWord) :=
  [("RD_CTRL", 0x08000000000#41, 0x1FF00000000#41),
   ("WR_CTRL", 0x18000000000#41, 0x1FF00000000#41),
   ("RD_STATUS", 0x08400000000#41, 0x1FF00000000#41),
   ("WR_STATUS", 0x18400000000#41, 0x1FF00000000#41),
   ("RD_CFG_TIMEOUT", 0x08800000000#41, 0x1FF00000000#41),
   ("WR_CFG_TIMEOUT", 0x18800000000#41, 0x1FF00000000#41),
   ("RD_CFG_START", 0x08C00000000#41, 0x1FF00000000#41),
   ("WR_CFG_START", 0x18C00000000#41, 0x1FF00000000#41),
   ("RD_DATA0", 0x09000000000#41, 0x1FF00000000#41),
   ("WR_DATA0", 0x19000000000#41, 0x1FF00000000#41),
   ("RD_DATA1", 0x09400000000#41, 0x1FF00000000#41),
   ("WR_DATA1", 0x19400000000#41, 0x1FF00000000#41),
   ("RD_HUMIDITY", 0x09800000000#41, 0x1FF00000000#41),
   ("WR_HUMIDITY", 0x19800000000#41, 0x1FF00000000#41),
   ("RD_TEMPERATURE", 0x09C00000000#41, 0x1FF00000000#41),
   ("WR_TEMPERATURE", 0x19C00000000#41, 0x1FF00000000#41),
   ("RD_RESERVED", 0x0A000000000#41, 0x1E300000000#41),
   ("WR_RESERVED", 0x1A000000000#41, 0x1E300000000#41),
   ("BUS_ERR_SUBWORD", 0x00000000000#41, 0x08000000000#41),
   ("BUS_ERR_SZ11", 0x0C000000000#41, 0x0C000000000#41),
   ("BUS_ERR_OFF_ODD", 0x08100000000#41, 0x0C100000000#41),
   ("BUS_ERR_OFF_HALF", 0x08200000000#41, 0x0C300000000#41)]

/-- The rows of format `tick`: mnemonic, match, mask (R90, R245). -/
def tickRows : List (String × BitVec 3 × BitVec 3) :=
  [("TICK_IDLE", 0b000#3, 0b111#3),
   ("TICK_START_LOW", 0b001#3, 0b111#3),
   ("TICK_RELEASE", 0b010#3, 0b111#3),
   ("TICK_WAIT", 0b011#3, 0b111#3),
   ("TICK_DECODE", 0b100#3, 0b111#3),
   ("TICK_FINISH", 0b101#3, 0b111#3),
   ("TICK_ILLEGAL", 0b110#3, 0b110#3)]

/-- A numeral in the opcode table's numbering as an operation word. Tick rows have 3 bits and bus rows at least
40, so a length of at most 32 bits means a tick row (DESIGN CHOICE, entry 12). -/
def readTableWord (nbits w : Nat) : Except DecodeReject OpWord :=
  if nbits ≤ 32 then
    if w < 8 then .ok (.tick (BitVec.ofNat 3 w)) else .error .tickWordTooWide
  else
    if w < 2 ^ 41 then .ok (.bus (BitVec.ofNat 41 w)) else .error .busWordTooWide

/-- The instruction the decoder reads from a word numbered as the opcode table numbers it. -/
def decodeTableWord (nbits w : Nat) : Option Instr :=
  match readTableWord nbits w with
  | .ok word => some (decode word)
  | .error _ => none

/-- The byte offset of a register in the window (R24). -/
def regOffset (r : Reg) : BitVec 6 :=
  match r with
  | .ctrl => 0x00#6
  | .status => 0x04#6
  | .cfgTimeout => 0x08#6
  | .cfgStart => 0x0C#6
  | .data0 => 0x10#6
  | .data1 => 0x14#6
  | .humidity => 0x18#6
  | .temperature => 0x1C#6

/-- Host syntax `WR <reg>, <imm32>` (R89). -/
def asmWr (r : Reg) (imm : Word) : TxWord := packTx true 0b10#2 (regOffset r) imm

/-- Host syntax `v <- RD <reg>`: WDATA is written as 0 (R89). -/
def asmRd (r : Reg) : TxWord := packTx false 0b10#2 (regOffset r) 0#32

/-- Pseudo-instruction `ACQUIRE` (R89). -/
def asmAcquire : TxWord := asmWr .ctrl 0x00000001#32

/-- Pseudo-instruction `CLRDONE` (R89). -/
def asmClrDone : TxWord := asmWr .status 0x00000002#32

/-- Pseudo-instruction `SETTMO n` (R89). -/
def asmSetTmo (n : Word) : TxWord := asmWr .cfgTimeout n

/-- Pseudo-instruction `SETSTART n` (R89). -/
def asmSetStart (n : Word) : TxWord := asmWr .cfgStart n

end Sys2Proof
end

