-- ==== Sys2Proof/Config.lean ====
section
/-! DEFINITION. Config.lean: the OPEN parameters of R7 and R8, and the one free value of the model. None has a
body, so nothing proved can depend on its value. -/

namespace Sys2Proof

/-- BASE / 64. BASE is a platform parameter (P1, R60). -/
opaque Config.baseIndex : Nat

/-- BASE, a multiple of 64 (R60). -/
def Config.base : Nat := 64 * Config.baseIndex

/-- CLK_PER_US - 1 (P2). -/
opaque Config.clkPerUsPred : Nat

/-- CLK_PER_US, an integer of at least 1: clock cycles per tick (R7, R140). -/
def Config.clkPerUs : Nat := Config.clkPerUsPred + 1

/-- SYNC_STAGES, an integer of at least 0: flip-flops between `dq_i` and the sample (P3, R14). -/
opaque Config.syncStages : Nat

/-- FREE VALUE (entry 1): what the environment does when nothing is queued, one draw for each count. It stands
for "in any order the environment chooses" (R10) and for the free draw of the line level (R14). -/
opaque Config.environment : Nat → Event

end Sys2Proof
end

