-- ==== Sys2Proof/Machine/State.lean ====
section
/-! DEFINITION. State.lean: the block's state (10_state.md), why a step can stop, and the state after reset. -/

namespace Sys2Proof.Machine

/-- The tick engine's state `st` (R40), with the two illegal codes of R245, so that TICK_ILLEGAL can run. -/
inductive TickState where
  | idle
  | startLow
  | release
  | wait
  | decode
  | finish
  | illegal6
  | illegal7
  deriving DecidableEq, Repr, Inhabited

/-- The failure codes of STATUS.ERR (R231). Codes 7..15 are never produced (R87, I10; entry 16). -/
inductive FailCode where
  | none
  | hsResponse
  | hsPullup
  | hsStream
  | bitMarker
  | bitData
  | checksum
  deriving DecidableEq, Repr, Inhabited

/-- Why the machine stops with a fault. -/
inductive Fault where
  /-- A read of a PW entry that holds no value (R51: "a model must treat a read of an unwritten PW[i] as a
  fault"). Raised by TICK_DECODE through `readPulse`. Safe; no run reaches it. -/
  | unwrittenPulse (i : Nat)
  /-- An access to a PW entry above 79, which does not exist (R44). Raised by TICK_WAIT and TICK_DECODE through
  `writePulse` and `readPulse` when `ph` or `k` is out of its range. DESIGN CHOICE (entry 9), safe; no run
  reaches it. -/
  | noSuchPulse (i : Nat)
  deriving DecidableEq, Repr, Inhabited

/-- Why the model gives an instruction no meaning. -/
inductive Refusal where
  /-- Raised by `exec`'s arm for an instruction that has no meaning yet. Safe. No arm raises it now. -/
  | notModelled (mnemonic : String)
  deriving DecidableEq, Repr, Inhabited

/-- Everything the spec gives the block, the ports whose value a run needs, and the environment's queue. -/
structure State where
  /-- tick engine state (R40) -/
  st         : TickState
  /-- 18-bit tick counter (R41) -/
  cnt        : BitVec 18
  /-- phase index, 0..82 (R42) -/
  ph         : BitVec 7
  /-- bit index, 0..39 (R43) -/
  k          : BitVec 6
  /-- pulse register set; `none` is "no value", the spec's own state of an unwritten entry (R44, R51) -/
  pw         : Vector (Option Width) 80
  /-- shift register (R45) -/
  sr         : Frame
  /-- last good frame (R46) -/
  lf         : Frame
  /-- tick prescaler, a counter of clocks modulo CLK_PER_US (R47) -/
  presc      : Nat
  /-- STATUS.DONE (R27) -/
  done       : Bool
  /-- STATUS.OK (R28) -/
  ok         : Bool
  /-- STATUS.VALID (R29) -/
  valid      : Bool
  /-- STATUS.ERR (R30) -/
  err        : FailCode
  /-- STATUS.ERR_BIT (R31) -/
  errBit     : BitVec 6
  /-- CFG_TIMEOUT.TIMEOUT_US (R33) -/
  timeoutUs  : BitVec 16
  /-- CFG_START.START_LOW_MS (R34) -/
  startLowMs : BitVec 8
  /-- the bus answer's read data, kept until the next answer (R80; entry 4) -/
  rdata      : Word
  /-- the bus answer's error flag, kept until the next answer (R80; entry 4) -/
  busErr     : Bool
  /-- the line level the current tick samples (R14; entry 7) -/
  dqS        : Bool
  /-- the synchroniser: bit j is flip-flop j, bit 0 the one nearest the pad (R14; entry 6) -/
  sync       : Nat
  /-- MODEL: the environment's next events, oldest first (R10; entry 1) -/
  inbox      : List Event
  /-- MODEL: how many free draws the environment has made (entry 1) -/
  draws      : Nat
  deriving DecidableEq, Repr

/-- The machine right after reset (R50). `rdata`, `busErr`: R260 and entry 4; `dqS`: entry 7; `sync`: entry 6;
`inbox`, `draws`: entry 1. -/
def State.reset : State where
  st := .idle
  cnt := 0
  ph := 0
  k := 0
  pw := Vector.replicate 80 none
  sr := 0
  lf := 0
  presc := 0
  done := false
  ok := false
  valid := false
  err := .none
  errBit := 0
  timeoutUs := 0x03E8#16
  startLowMs := 0x12#8
  rdata := 0
  busErr := false
  dqS := false
  sync := 0
  inbox := []
  draws := 0

end Sys2Proof.Machine
end

