-- ==== Sys2Proof/Machine/Flags.lean ====
section
/-! DEFINITION. Flags.lean: the STATUS flags and the events that write them (R26 to R32, R48). -/

namespace Sys2Proof.Machine

/-- STATUS.BUSY = (st != IDLE) (R26). -/
def busy (s : State) : Bool := s.st != .idle

/-- The 4-bit code of a failure in STATUS.ERR (R231). -/
def errCode (c : FailCode) : BitVec 4 :=
  match c with
  | .none => 0#4
  | .hsResponse => 1#4
  | .hsPullup => 2#4
  | .hsStream => 3#4
  | .bitMarker => 4#4
  | .bitData => 5#4
  | .checksum => 6#4

/-- The STATUS register as a read returns it (R32). -/
def statusWord (s : State) : Word :=
  0#18 ++ s.errBit ++ errCode s.err ++ BitVec.ofBool s.valid ++ BitVec.ofBool s.ok ++ BitVec.ofBool s.done
    ++ BitVec.ofBool (busy s)

/-- The flags of an accepted START (R48, R103); VALID is unchanged. BUSY follows from `st`. -/
def flagsOnStart (s : State) : State :=
  { s with done := false, ok := false, err := .none, errBit := 0 }

/-- The flag of a STATUS write with WDATA[1] = 1 (R48, R105). -/
def clearDone (s : State) : State :=
  { s with done := false }

/-- The flags of `complete_ok` (R48, R199). -/
def flagsOnSuccess (s : State) : State :=
  { s with done := true, ok := true, valid := true, err := .none, errBit := 0 }

/-- The flags of `complete_fail` (R48, R232). -/
def flagsOnFailure (code : FailCode) (bit : BitVec 6) (s : State) : State :=
  { s with done := true, ok := false, valid := false, err := code, errBit := bit }

end Sys2Proof.Machine
end

