-- ==== Sys2Proof/Machine/Operands.lean ====
section
/-! DEFINITION. Operands.lean: the write operands of R84 and the WARL clamps of R85. -/

namespace Sys2Proof.Machine

/-- WR_CTRL's operand START = WDATA[0] (R84). -/
def startOperand (wdata : Word) : Bool := wdata.getLsbD 0

/-- WR_STATUS's operand DONE_CLR = WDATA[1] (R84). -/
def doneClrOperand (wdata : Word) : Bool := wdata.getLsbD 1

/-- WR_CFG_TIMEOUT's operand, max(2, WDATA[15:0]) (R84, R85). -/
def timeoutOperand (wdata : Word) : BitVec 16 :=
  if (wdata.extractLsb' 0 16).toNat < 2 then 2#16 else wdata.extractLsb' 0 16

/-- WR_CFG_START's operand, max(1, WDATA[7:0]) (R84, R85). -/
def startLowOperand (wdata : Word) : BitVec 8 :=
  if (wdata.extractLsb' 0 8).toNat < 1 then 1#8 else wdata.extractLsb' 0 8

end Sys2Proof.Machine
end

