-- ==== Sys2Proof/Machine/Ops.lean ====
section
/-! DEFINITION. Ops.lean: the shared operations of the rules: the line, the register window and its answers,
the start and the two ends of an acquisition, the waits, the pulse registers, bit reconstruction, the checksum
and the value conversion. -/

namespace Sys2Proof.Machine

/-- Runs the second operation from the first one's next state; a stop stays a stop. -/
def andThen (o : Host.Outcome State Fault Refusal) (f : State → Host.Outcome State Fault Refusal) :
    Host.Outcome State Fault Refusal :=
  match o with
  | .next s => f s
  | .fault r => .fault r
  | .refused r => .refused r

/-! ## The tick engine's state code -/

/-- The 3-bit code of `st` (R90). -/
def stCode (t : TickState) : BitVec 3 :=
  match t with
  | .idle => 0b000#3
  | .startLow => 0b001#3
  | .release => 0b010#3
  | .wait => 0b011#3
  | .decode => 0b100#3
  | .finish => 0b101#3
  | .illegal6 => 0b110#3
  | .illegal7 => 0b111#3

/-- The tick engine state of a 3-bit code (R90). -/
def ofStCode (c : BitVec 3) : TickState :=
  match c.toNat with
  | 0 => .idle
  | 1 => .startLow
  | 2 => .release
  | 3 => .wait
  | 4 => .decode
  | 5 => .finish
  | 6 => .illegal6
  | _ => .illegal7

/-! ## The line (R20, R21) -/

/-- `dq_oe`: the block drives the line (R21). -/
def dqOe (s : State) : Bool := s.st == .startLow || s.st == .release

/-- `dq_o`: the level the block drives (R21). -/
def dqO (s : State) : Bool := s.st == .release

/-- The line's level, and so `dq_i`: `dq_o` while the block drives it, else the level that the sensor and the
pull-up set (R20). -/
def lineLevel (s : State) (ext : Bool) : Bool := if dqOe s then dqO s else ext

/-! ## Frames and value conversion (R196, R201 to R203) -/

/-- DataFrame byte b_i = F[39-8i : 32-8i], i = 0..4 (R196). -/
def frameByte (f : Frame) (i : Nat) : BitVec 8 := f.extractLsb' (32 - 8 * i) 8

/-- The checksum rule: (b0 + b1 + b2 + b3) mod 256 = b4, with an exact sum (R197). -/
def checksumGood (f : Frame) : Bool :=
  ((frameByte f 0).toNat + (frameByte f 1).toNat + (frameByte f 2).toNat + (frameByte f 3).toNat) % 256
    == (frameByte f 4).toNat

/-- HUM_X10 = 10*b0 + b1 (R201). -/
def humX10 (f : Frame) : Nat := 10 * (frameByte f 0).toNat + (frameByte f 1).toNat

/-- MAG = 10*b2 + b3[6:0] (R202). -/
def tempMag (f : Frame) : Nat := 10 * (frameByte f 2).toNat + ((frameByte f 3).extractLsb' 0 7).toNat

/-- TEMP_NEG = b3[7] (R202). -/
def tempNeg (f : Frame) : Bool := (frameByte f 3).getLsbD 7

/-- TEMP_X10, signed (R202). -/
def tempX10 (f : Frame) : Int := if tempNeg f then -(tempMag f : Int) else (tempMag f : Int)

/-- `LastHumidity()`, the real number HUM_X10 / 10 (R203). -/
def lastHumidity (s : State) : Rat := (humX10 s.lf : Rat) / 10

/-- `LastTemperature()`, the real number TEMP_X10 / 10 (R203). -/
def lastTemperature (s : State) : Rat := (tempX10 s.lf : Rat) / 10

/-! ## The register window (R24, R60 to R65) -/

/-- DATA0 = {LF[15:8], LF[23:16], LF[31:24], LF[39:32]} (R35). -/
def data0Word (f : Frame) : Word :=
  f.extractLsb' 8 8 ++ f.extractLsb' 16 8 ++ f.extractLsb' 24 8 ++ f.extractLsb' 32 8

/-- DATA1 = {24'b0, LF[7:0]} (R36). -/
def data1Word (f : Frame) : Word := (f.extractLsb' 0 8).setWidth 32

/-- HUMIDITY: bits 11:0 hold HUM_X10 (R37). -/
def humidityWord (f : Frame) : Word := BitVec.ofNat 32 (humX10 f)

/-- TEMPERATURE = {15'b0, TEMP_NEG, trunc_16(TEMP_X10)} (R38, R116). -/
def temperatureWord (f : Frame) : Word :=
  0#15 ++ BitVec.ofBool (tempNeg f) ++ BitVec.ofInt 16 (tempX10 f)

/-- What a read of a register returns (R25, R32 to R38, R86). -/
def readReg (r : Reg) (s : State) : Word :=
  match r with
  | .ctrl => 0#32
  | .status => statusWord s
  | .cfgTimeout => s.timeoutUs.setWidth 32
  | .cfgStart => s.startLowMs.setWidth 32
  | .data0 => data0Word s.lf
  | .data1 => data1Word s.lf
  | .humidity => humidityWord s.lf
  | .temperature => temperatureWord s.lf

/-- The 32-bit word of the window at word index `j` = OFF[5:2]; the reserved half reads 0 (R24, R64). -/
def windowWord (j : Nat) (s : State) : Word :=
  match j with
  | 0 => readReg .ctrl s
  | 1 => readReg .status s
  | 2 => readReg .cfgTimeout s
  | 3 => readReg .cfgStart s
  | 4 => readReg .data0 s
  | 5 => readReg .data1 s
  | 6 => readReg .humidity s
  | 7 => readReg .temperature s
  | _ => 0#32

/-- The byte at byte offset `a` of the window: lane i of a register is bits [8i+7:8i] (R63). -/
def windowByte (a : Nat) (s : State) : BitVec 8 :=
  (windowWord (a / 4) s).extractLsb' (8 * (a % 4)) 8

/-- The offset the platform hands the block for an address: addresses in BASE..BASE+63 only (R60). -/
def route (addr : Nat) : Option (BitVec 6) :=
  if Config.base ≤ addr ∧ addr < Config.base + 64 then some (BitVec.ofNat 6 (addr - Config.base)) else none

/-- `resp(rdata, 0)`: an accepted operation's answer (R100). -/
def respond (rdata : Word) (s : State) : State :=
  { s with rdata := rdata, busErr := false }

/-- `raise BusError(off)`: the answer is rdata = 0, err = 1, and no state of the block changes (R236). This is
the one exception entry of the block; there is no return from it (R238). -/
def raiseBusError (s : State) : State :=
  { s with rdata := 0, busErr := true }

/-- Whether a CTRL write starts an acquisition: START = 1 while idle (R102). -/
def acceptsStart (wdata : Word) (s : State) : Bool := startOperand wdata && s.st == .idle

/-- Sets the timeout budget unless busy (R107, R267). -/
def writeTimeout (wdata : Word) (s : State) : State :=
  if s.st = .idle then { s with timeoutUs := timeoutOperand wdata } else s

/-- Sets the start-pulse length unless busy (R109, R267). -/
def writeStartLow (wdata : Word) (s : State) : State :=
  if s.st = .idle then { s with startLowMs := startLowOperand wdata } else s

/-! ## The start and the ends of an acquisition -/

/-- `start_acquisition()` (R103). -/
def startAcquisition (s : State) : State :=
  { flagsOnStart s with st := .startLow, cnt := 0, presc := 0, sr := 0 }

/-- `complete_ok()` (R199). -/
def completeOk (s : State) : State :=
  { flagsOnSuccess s with lf := s.sr, st := .idle }

/-- `complete_fail(code, bit)` (R232). -/
def completeFail (code : FailCode) (bit : BitVec 6) (s : State) : State :=
  { flagsOnFailure code bit s with st := .idle }

/-- Reset: every piece of the block's state takes its reset value (R260). The environment's queue is no state of
the block and stays (entry 15). -/
def resetBlock (s : State) : State :=
  { State.reset with inbox := s.inbox, draws := s.draws }

/-! ## The pulse registers and the waits -/

/-- SENTINEL = 0xFFFF (R7, R44). -/
def sentinel : Width := 0xFFFF#16

/-- Reads PW[i] and goes on with its value; an entry without a value faults (R51). -/
def readPulse (i : Nat) (s : State) (f : Width → Host.Outcome State Fault Refusal) :
    Host.Outcome State Fault Refusal :=
  match s.pw[i]? with
  | some (some w) => f w
  | some none => .fault (.unwrittenPulse i)
  | none => .fault (.noSuchPulse i)

/-- Writes PW[i] (R167, R168). -/
def writePulse (i : Nat) (w : Width) (s : State) : Host.Outcome State Fault Refusal :=
  if h : i < 80 then .next { s with pw := s.pw.set i (some w) } else .fault (.noSuchPulse i)

/-- L(ph) = 1 if ph mod 2 == 0 else 0 (R161). -/
def phaseLevel (ph : BitVec 7) : Bool := ph.toNat % 2 == 0

/-- The end of a capture phase: phase 82 enters DECODE with k = 0, every other goes to the next phase, whose
count starts at `c` (R167, R168, R169). -/
def advanceCapture (c : BitVec 18) (s : State) : State :=
  if s.ph = 82#7 then { s with st := .decode, k := 0 } else { s with ph := s.ph + 1, cnt := c }

/-- `phase_done(w)`: the line left the phase's level (R165 for ph <= 2, R167 for ph >= 3). -/
def phaseDone (w : BitVec 18) (s : State) : Host.Outcome State Fault Refusal :=
  if s.ph.toNat ≤ 2 then .next { s with ph := s.ph + 1, cnt := 1 }
  else andThen (writePulse (s.ph.toNat - 3) (w.setWidth 16) s) fun s1 => .next (advanceCapture 1 s1)

/-- `phase_timeout()`: the budget ran out (R166 for ph <= 2, R168 for ph >= 3). -/
def phaseTimeout (s : State) : Host.Outcome State Fault Refusal :=
  match s.ph.toNat with
  | 0 => .next (completeFail .hsResponse 0 s)
  | 1 => .next (completeFail .hsPullup 0 s)
  | 2 => .next (completeFail .hsStream 0 s)
  | p + 3 => andThen (writePulse p sentinel s) fun s1 => .next (advanceCapture 0 s1)

/-! ## Bit reconstruction (R190, R193) -/

/-- bit(m, d) = 1 iff d > m, strict and unsigned (R190). -/
def bitOf (m d : Width) : Bool := m.toNat < d.toNat

/-- SR <- ((SR << 1) | b) mod 2^40 (R193). -/
def shiftIn (sr : Frame) (b : Bool) : Frame := (sr <<< 1) ||| BitVec.setWidth 40 (BitVec.ofBool b)

end Sys2Proof.Machine
end

