-- ==== Sys2Proof/Machine/BusErrors.lean ====
section
/-! DEFINITION. BusErrors.lean: the refused transactions, the four rows BUS_ERR (R120), and TICK_ILLEGAL
(R245). -/

namespace Sys2Proof.Machine

/-- BUS_ERR, sub-word size (R120, R236). -/
def execBusErrSubword (s : State) : Host.Outcome State Fault Refusal := .next (raiseBusError s)

/-- BUS_ERR, reserved size code (R120, R236). -/
def execBusErrSz11 (s : State) : Host.Outcome State Fault Refusal := .next (raiseBusError s)

/-- BUS_ERR, odd offset (R120, R236). -/
def execBusErrOffOdd (s : State) : Host.Outcome State Fault Refusal := .next (raiseBusError s)

/-- BUS_ERR, offset 4n+2 (R120, R236). -/
def execBusErrOffHalf (s : State) : Host.Outcome State Fault Refusal := .next (raiseBusError s)

/-- TICK_ILLEGAL: st <- IDLE (R245). -/
def execTickIllegal (s : State) : Host.Outcome State Fault Refusal := .next { s with st := .idle }

end Sys2Proof.Machine
end

