-- ==== Sys2Proof/Machine/Capture.lean ====
section
/-! DEFINITION. Capture.lean: TICK_WAIT, the one tick operation of the handshake and of pulse capture
(42_capture.md). -/

namespace Sys2Proof.Machine

/-- TICK_WAIT: one tick of a wait on the level L(ph), bounded by TIMEOUT_US (R162). -/
def execTickWait (s : State) : Host.Outcome State Fault Refusal :=
  if s.dqS = phaseLevel s.ph then
    if s.timeoutUs.toNat ≤ s.cnt.toNat + 1 then phaseTimeout s
    else .next { s with cnt := s.cnt + 1 }
  else phaseDone s.cnt s

end Sys2Proof.Machine
end

