-- ==== Sys2Proof/Machine/FrameDecode.lean ====
section
/-! DEFINITION. FrameDecode.lean: TICK_DECODE and TICK_FINISH (43_decode.md). -/

namespace Sys2Proof.Machine

/-- TICK_DECODE: reconstruct bit k; the marker is checked before the data pulse (R191, R192). -/
def execTickDecode (s : State) : Host.Outcome State Fault Refusal :=
  readPulse (2 * s.k.toNat) s fun m =>
    readPulse (2 * s.k.toNat + 1) s fun d =>
      if m = sentinel then .next (completeFail .bitMarker s.k s)
      else if d = sentinel then .next (completeFail .bitData s.k s)
      else if s.k = 39#6 then .next { s with sr := shiftIn s.sr (bitOf m d), st := .finish }
      else .next { s with sr := shiftIn s.sr (bitOf m d), k := s.k + 1 }

/-- TICK_FINISH: validate the frame and commit it (R195). -/
def execTickFinish (s : State) : Host.Outcome State Fault Refusal :=
  if checksumGood s.sr then .next (completeOk s) else .next (completeFail .checksum 0 s)

end Sys2Proof.Machine
end

