-- ==== Sys2Proof/Machine/HostOperations.lean ====
section
/-! DEFINITION. HostOperations.lean: the accepted host bus operations (40_host_operations.md R101 to R119). -/

namespace Sys2Proof.Machine

/-- RD_CTRL (R101). -/
def execRdCtrl (s : State) : Host.Outcome State Fault Refusal := .next (respond (readReg .ctrl s) s)

/-- WR_CTRL, the `Acquire()` command (R102). -/
def execWrCtrl (wdata : Word) (s : State) : Host.Outcome State Fault Refusal :=
  .next (respond 0 (if acceptsStart wdata s then startAcquisition s else s))

/-- RD_STATUS (R104). -/
def execRdStatus (s : State) : Host.Outcome State Fault Refusal := .next (respond (readReg .status s) s)

/-- WR_STATUS (R105). -/
def execWrStatus (wdata : Word) (s : State) : Host.Outcome State Fault Refusal :=
  .next (respond 0 (if doneClrOperand wdata then clearDone s else s))

/-- RD_CFG_TIMEOUT (R106). -/
def execRdCfgTimeout (s : State) : Host.Outcome State Fault Refusal := .next (respond (readReg .cfgTimeout s) s)

/-- WR_CFG_TIMEOUT (R107). -/
def execWrCfgTimeout (wdata : Word) (s : State) : Host.Outcome State Fault Refusal :=
  .next (respond 0 (writeTimeout wdata s))

/-- RD_CFG_START (R108). -/
def execRdCfgStart (s : State) : Host.Outcome State Fault Refusal := .next (respond (readReg .cfgStart s) s)

/-- WR_CFG_START (R109). -/
def execWrCfgStart (wdata : Word) (s : State) : Host.Outcome State Fault Refusal :=
  .next (respond 0 (writeStartLow wdata s))

/-- RD_DATA0 (R110). -/
def execRdData0 (s : State) : Host.Outcome State Fault Refusal := .next (respond (readReg .data0 s) s)

/-- WR_DATA0: ignored (R111). -/
def execWrData0 (s : State) : Host.Outcome State Fault Refusal := .next (respond 0 s)

/-- RD_DATA1 (R112). -/
def execRdData1 (s : State) : Host.Outcome State Fault Refusal := .next (respond (readReg .data1 s) s)

/-- WR_DATA1: ignored (R113). -/
def execWrData1 (s : State) : Host.Outcome State Fault Refusal := .next (respond 0 s)

/-- RD_HUMIDITY (R114). -/
def execRdHumidity (s : State) : Host.Outcome State Fault Refusal := .next (respond (readReg .humidity s) s)

/-- WR_HUMIDITY: ignored (R115). -/
def execWrHumidity (s : State) : Host.Outcome State Fault Refusal := .next (respond 0 s)

/-- RD_TEMPERATURE (R116). -/
def execRdTemperature (s : State) : Host.Outcome State Fault Refusal := .next (respond (readReg .temperature s) s)

/-- WR_TEMPERATURE: ignored (R117). -/
def execWrTemperature (s : State) : Host.Outcome State Fault Refusal := .next (respond 0 s)

/-- RD_RESERVED: reads 0 without error (R118). -/
def execRdReserved (s : State) : Host.Outcome State Fault Refusal := .next (respond 0 s)

/-- WR_RESERVED: ignored without error (R119). -/
def execWrReserved (s : State) : Host.Outcome State Fault Refusal := .next (respond 0 s)

end Sys2Proof.Machine
end

