-- ==== Sys2Proof/Machine/LineDriver.lean ====
section
/-! DEFINITION. LineDriver.lean: the tick operations of IDLE, START_LOW and RELEASE (41_line_driver.md). -/

namespace Sys2Proof.Machine

/-- TICK_IDLE: no state changes (R141). -/
def execTickIdle (s : State) : Host.Outcome State Fault Refusal := .next s

/-- TICK_START_LOW: one tick of the LOW drive of START_LOW_MS * 1000 ticks (R142). -/
def execTickStartLow (s : State) : Host.Outcome State Fault Refusal :=
  if s.cnt.toNat + 1 = s.startLowMs.toNat * 1000 then .next { s with st := .release, cnt := 0 }
  else .next { s with cnt := s.cnt + 1 }

/-- TICK_RELEASE: the end of the start condition (R143). -/
def execTickRelease (s : State) : Host.Outcome State Fault Refusal :=
  .next { s with st := .wait, ph := 0, cnt := 0 }

end Sys2Proof.Machine
end

