-- ==== Sys2Proof/Machine/Dispatch.lean ====
section
/-! DEFINITION. Dispatch.lean: one arm for each row of the opcode table. -/

namespace Sys2Proof.Machine

def exec (i : Instr) (s : State) : Host.Outcome State Fault Refusal :=
  match i with
  | .rdCtrl _ => Sys2Proof.Machine.execRdCtrl s
  | .wrCtrl wdata => Sys2Proof.Machine.execWrCtrl wdata s
  | .rdStatus _ => Sys2Proof.Machine.execRdStatus s
  | .wrStatus wdata => Sys2Proof.Machine.execWrStatus wdata s
  | .rdCfgTimeout _ => Sys2Proof.Machine.execRdCfgTimeout s
  | .wrCfgTimeout wdata => Sys2Proof.Machine.execWrCfgTimeout wdata s
  | .rdCfgStart _ => Sys2Proof.Machine.execRdCfgStart s
  | .wrCfgStart wdata => Sys2Proof.Machine.execWrCfgStart wdata s
  | .rdData0 _ => Sys2Proof.Machine.execRdData0 s
  | .wrData0 _ => Sys2Proof.Machine.execWrData0 s
  | .rdData1 _ => Sys2Proof.Machine.execRdData1 s
  | .wrData1 _ => Sys2Proof.Machine.execWrData1 s
  | .rdHumidity _ => Sys2Proof.Machine.execRdHumidity s
  | .wrHumidity _ => Sys2Proof.Machine.execWrHumidity s
  | .rdTemperature _ => Sys2Proof.Machine.execRdTemperature s
  | .wrTemperature _ => Sys2Proof.Machine.execWrTemperature s
  | .rdReserved _ _ => Sys2Proof.Machine.execRdReserved s
  | .wrReserved _ _ => Sys2Proof.Machine.execWrReserved s
  | .busErrSubword _ _ _ _ => Sys2Proof.Machine.execBusErrSubword s
  | .busErrSz11 _ _ _ => Sys2Proof.Machine.execBusErrSz11 s
  | .busErrOffOdd _ _ _ => Sys2Proof.Machine.execBusErrOffOdd s
  | .busErrOffHalf _ _ _ => Sys2Proof.Machine.execBusErrOffHalf s
  | .tickIdle => Sys2Proof.Machine.execTickIdle s
  | .tickStartLow => Sys2Proof.Machine.execTickStartLow s
  | .tickRelease => Sys2Proof.Machine.execTickRelease s
  | .tickWait => Sys2Proof.Machine.execTickWait s
  | .tickDecode => Sys2Proof.Machine.execTickDecode s
  | .tickFinish => Sys2Proof.Machine.execTickFinish s
  | .tickIllegal _ => Sys2Proof.Machine.execTickIllegal s

end Sys2Proof.Machine
end

