-- ==== Sys2Proof/Machine/Events.lean ====
section
/-! DEFINITION. Events.lean: what each agent's atomic step does (R9, R10), one clock cycle with all pins (R20,
R140, R260), and where the next event comes from. -/

namespace Sys2Proof.Machine

/-- The host bus agent's step: decode the transaction and perform it (R82, R100). -/
def runTransaction (t : TxWord) (s : State) : Host.Outcome State Fault Refusal := exec (decodeBus t) s

/-- The line is sampled in state WAIT only (R14). -/
def sampleLine (level : Bool) (s : State) : State :=
  if s.st = .wait then { s with dqS := level } else s

/-- The tick engine's step: the state code selects the tick operation (R90); `level` is the free draw of the line
sample (R14). -/
def runTick (level : Bool) (s : State) : Host.Outcome State Fault Refusal :=
  exec (decodeTick (stCode s.st)) (sampleLine level s)

/-- The transaction the platform makes of a host access it routes to the block (R60). -/
def routeAccess (a : Access) : Option TxWord :=
  (route a.addr).map fun off => packTx a.we a.size off a.wdata

/-- A host access: the block sees it only inside its window (R60). -/
def runAccess (a : Access) (s : State) : Host.Outcome State Fault Refusal :=
  match routeAccess a with
  | some t => runTransaction t s
  | none => .next s

/-- The transaction is an accepted START (R102). -/
def isAcceptedStart (t : TxWord) (s : State) : Bool :=
  match decodeBus t with
  | .wrCtrl wdata => acceptsStart wdata s
  | _ => false

/-- The SYNC_STAGES flip-flops and the wire before them at a clock edge: bit j is the level of `dq_i` j cycles
ago (R14). -/
def syncInput (dq : Bool) (s : State) : Nat := 2 * s.sync + dq.toNat

/-- Clocks the synchroniser (R14). -/
def clockSync (dq : Bool) (s : State) : State :=
  { s with sync := syncInput dq s % 2 ^ Config.syncStages }

/-- The synchronised level `dq_s` at this clock edge: `dq_i` after SYNC_STAGES flip-flops (R14). -/
def synchronised (dq : Bool) (s : State) : Bool := (syncInput dq s).testBit Config.syncStages

/-- The prescaler in one cycle, and the tick it makes (R140). -/
def prescale (level : Bool) (s : State) : Host.Outcome State Fault Refusal :=
  if s.presc = Config.clkPerUs - 1 then runTick level { s with presc := 0 }
  else .next { s with presc := s.presc + 1 }

/-- The part of a cycle after its transaction: the synchroniser is clocked, and the prescaler runs unless the
cycle accepted a START (R10, R140). -/
def clockEdge (dq : Bool) (accepted : Bool) (s : State) : Host.Outcome State Fault Refusal :=
  if accepted then .next (clockSync dq s) else prescale (synchronised dq s) (clockSync dq s)

/-- One cycle of `clk`: reset first (R260), else the transaction and then the tick (R10). -/
def runCycle (p : Pins) (s : State) : Host.Outcome State Fault Refusal :=
  if p.rstN = false then .next (resetBlock s)
  else
    match p.req with
    | none => clockEdge (lineLevel s p.ext) false s
    | some t => andThen (runTransaction t s) (clockEdge (lineLevel s p.ext) (isAcceptedStart t s))

/-- What an event does. -/
def perform (e : Event) (s : State) : Host.Outcome State Fault Refusal :=
  match e with
  | .host t => runTransaction t s
  | .access a => runAccess a s
  | .tick level => runTick level s
  | .reset => .next (resetBlock s)
  | .cycle p => runCycle p s

/-- The next event: the oldest queued one, else a free draw of the environment (R10, R14; entry 1). -/
def nextEvent (s : State) : Event × State :=
  match s.inbox with
  | e :: rest => (e, { s with inbox := rest })
  | [] => (Config.environment s.draws, { s with draws := s.draws + 1 })

end Sys2Proof.Machine
end

