-- ==== Sys2Proof/Machine/Step.lean ====
section
/-! DEFINITION. Step.lean: one atomic step of the machine, and how a given operation word is made its next one. -/

namespace Sys2Proof.Machine

/-- One step: the next event is taken and performed (R9, R10). -/
def step (s : State) : Host.Outcome State Fault Refusal :=
  perform (nextEvent s).1 (nextEvent s).2

/-- Makes the operation numbered `w` in the opcode table's numbering the next one (entries 12, 13): a bus word is
put at the head of the queue as a transaction; a tick word is a state code, so `st` takes it and a tick that keeps
the sampled level is put at the head of the queue. -/
def State.withFetchWord (s : State) (nbits w : Nat) : State :=
  if nbits ≤ 32 then { s with st := ofStCode (BitVec.ofNat 3 w), inbox := .tick s.dqS :: s.inbox }
  else { s with inbox := .host (BitVec.ofNat 41 w) :: s.inbox }

end Sys2Proof.Machine
end

