-- ==== Sys2Proof/Safety.lean ====
section
/-! DEFINITION. Safety.lean: what counts as a safe run, in the terms the statements use: the invariant of the
reachable states, runs of events, the bound on an acquisition's remaining ticks. -/

namespace Sys2Proof.Machine

/-- Runs events one after the other, stopping at the first fault or refusal. -/
def runEvents (es : List Event) (s : State) : Host.Outcome State Fault Refusal :=
  match es with
  | [] => .next s
  | e :: rest => andThen (perform e s) (runEvents rest)

/-- One tick for each sampled level. -/
def runTicks (levels : List Bool) (s : State) : Host.Outcome State Fault Refusal :=
  runEvents (levels.map Event.tick) s

/-- One clock cycle for each set of pins. -/
def runCycles (pins : List Pins) (s : State) : Host.Outcome State Fault Refusal :=
  runEvents (pins.map Event.cycle) s

/-- The width in PW[i]. Where there is none it is 0, and no statement uses that case: each says that the entry is
written. -/
def pulseAt (pw : Vector (Option Width) 80) (i : Nat) : Width :=
  match pw[i]? with
  | some (some w) => w
  | _ => 0

/-- PW[i] holds a value (R51). -/
def isWritten (pw : Vector (Option Width) 80) (i : Nat) : Bool :=
  match pw[i]? with
  | some (some _) => true
  | _ => false

/-- PW[i] holds SENTINEL or a width below the budget `T` (R44, R164). -/
def pulseLegal (T : Nat) (pw : Vector (Option Width) 80) (i : Nat) : Bool :=
  isWritten pw i && (pulseAt pw i == sentinel || decide ((pulseAt pw i).toNat < T))

/-- The first `n` bits that decode makes of the pulse registers, shifted in one after the other (R190, R193). -/
def decodedBits (pw : Vector (Option Width) 80) (n : Nat) : Frame :=
  match n with
  | 0 => 0
  | m + 1 => shiftIn (decodedBits pw m) (bitOf (pulseAt pw (2 * m)) (pulseAt pw (2 * m + 1)))

/-- What holds of every state a run reaches. -/
structure Inv (s : State) : Prop where
  /-- `st` is one of the six states (R40, R245). -/
  legalState : s.st ≠ .illegal6 ∧ s.st ≠ .illegal7
  /-- `ph` and `k` are in their ranges (R42, R43). -/
  phaseRange : s.ph.toNat ≤ 82
  bitRange : s.k.toNat ≤ 39
  /-- The configuration is legal (R85). -/
  budgetLegal : 2 ≤ s.timeoutUs.toNat
  startLowLegal : 1 ≤ s.startLowMs.toNat
  /-- `cnt` stays below its bound (R41, R162). -/
  cntStartLow : s.st = .startLow → s.cnt.toNat < s.startLowMs.toNat * 1000
  cntWait : s.st = .wait → s.cnt.toNat < s.timeoutUs.toNat
  /-- PW is written up to the pulse being measured, and all of it before decode (R51, R169). -/
  captured : s.st = .wait → ∀ i < s.ph.toNat - 3, pulseLegal s.timeoutUs.toNat s.pw i = true
  capturedAll : s.st = .decode ∨ s.st = .finish → ∀ i < 80, pulseLegal s.timeoutUs.toNat s.pw i = true
  /-- SR holds the bits decoded so far, and no pulse used for them was a sentinel (R103, R191, R193). -/
  srCleared : s.st = .startLow ∨ s.st = .release ∨ s.st = .wait → s.sr = 0
  srDecoding : s.st = .decode →
    s.sr = decodedBits s.pw s.k.toNat ∧ ∀ i < 2 * s.k.toNat, pulseAt s.pw i ≠ sentinel
  srDecoded : s.st = .finish → s.sr = decodedBits s.pw 40 ∧ ∀ i < 80, pulseAt s.pw i ≠ sentinel
  /-- The last good frame passes the checksum (R112, R199). -/
  lfGood : checksumGood s.lf = true
  /-- While busy, DONE, OK, ERR and ERR_BIT are 0 (R268). -/
  busyFlags : busy s = true → s.done = false ∧ s.ok = false ∧ s.err = .none ∧ s.errBit = 0
  /-- OK comes with VALID and without a failure, a failure without VALID (R48). -/
  okFlags : s.ok = true → s.valid = true ∧ s.err = .none
  errFlags : s.err ≠ .none → s.valid = false
  /-- ERR_BIT is a bit index, and 0 unless ERR is BIT_MARKER or BIT_DATA (R31). -/
  errBitRange : s.errBit.toNat ≤ 39
  errBitZero : s.err ≠ .bitMarker → s.err ≠ .bitData → s.errBit = 0
  /-- PRESC counts modulo CLK_PER_US (R47), and the synchroniser has SYNC_STAGES flip-flops (R14). -/
  prescRange : s.presc < Config.clkPerUs
  syncRange : s.sync < 2 ^ Config.syncStages

/-- An acquisition has ended (R273). -/
def acquisitionEnded (s : State) : Bool := s.done && !busy s

/-- An upper bound on the ticks until the running acquisition ends: R274's sum, less what has already run. -/
def ticksLeft (s : State) : Nat :=
  let T := s.timeoutUs.toNat
  match s.st with
  | .idle => 0
  | .startLow => (s.startLowMs.toNat * 1000 - s.cnt.toNat) + 1 + (3 * T - 2) + 80 * T + 41
  | .release => 1 + (3 * T - 2) + 80 * T + 41
  | .wait =>
    if s.ph.toNat ≤ 2 then (T - s.cnt.toNat) + (2 - s.ph.toNat) * (T - 1) + 80 * T + 41
    else (T - s.cnt.toNat) + (82 - s.ph.toNat) * T + 41
  | .decode => (40 - s.k.toNat) + 1
  | .finish => 1
  | .illegal6 => 1
  | .illegal7 => 1

/-- What the window and the acquisition's acceptance show the host: nothing of `st` but BUSY, and nothing of
`cnt`, `ph`, `k`, `PW`, `SR` or `PRESC` (R75). -/
def hostVisibleEq (s t : State) : Prop :=
  busy s = busy t ∧ s.done = t.done ∧ s.ok = t.ok ∧ s.valid = t.valid ∧ s.err = t.err ∧ s.errBit = t.errBit ∧
    s.lf = t.lf ∧ s.timeoutUs = t.timeoutUs ∧ s.startLowMs = t.startLowMs

/-- The samples of R174's waveform, counted from the first WAIT tick: HIGH a0, LOW a1, HIGH a2, then for each of
the 40 bits LOW `m k` and HIGH `d k`, then one LOW sample. -/
def cleanWaveform (a0 a1 a2 : Nat) (m d : Nat → Nat) : List Bool :=
  List.replicate a0 true ++ List.replicate a1 false ++ List.replicate a2 true
    ++ (List.range 40).flatMap (fun k => List.replicate (m k) false ++ List.replicate (d k) true) ++ [false]

end Sys2Proof.Machine
end

