-- ==== Sys2Proof/Certificates/Slice0/Obligations.lean ====
section
/-! DEFINITION. Obligations.lean: the statements for the provers, in the order of the spec's rules. Where a
statement gives the whole next state of a tick or of a cycle without a transaction, `rdata` and `busErr` keep the
last answer, and where it gives the state after a reset, they are 0: that part is the model's choice (entry 4, DESIGN
CHOICE, unsafe) and no rule's, but for the answer to a transaction presented in a reset cycle (R260). -/

open Sys2Proof Sys2Proof.Machine

/-- Every transaction word with the match `m` under the mask of the fixed fields W, SZ and OFF decodes to the
instruction `f`, with T[31:0] as its operand (R83). -/
def Sys2Proof.Statements.rowReads (m : TxWord) (f : Word → Instr) : Prop :=
  ∀ t : TxWord, t &&& 0x1FF00000000#41 = m → decodeBus t = f (t.extractLsb' 0 32)

/-- The transaction is one the block refuses: SZ is not 10, or OFF[1:0] is not 00 (R120). -/
def Sys2Proof.Statements.isRefused (t : TxWord) : Prop :=
  txSz t ≠ 0b10#2 ∨ (txOff t).toNat % 4 ≠ 0

/-- Byte `i` of a frame, counted from the most significant one, as a number (R196). -/
def Sys2Proof.Statements.byteNat (f : Frame) (i : Nat) : Nat := f.toNat / 2 ^ (32 - 8 * i) % 256

/-- All 80 pulses are written and none is a sentinel. -/
def Sys2Proof.Statements.allMeasured (pw : Vector (Option Width) 80) : Prop :=
  ∀ i < 80, isWritten pw i = true ∧ pulseAt pw i ≠ 0xFFFF#16

open Sys2Proof.Statements

/-! ## Reset and the step -/

/-- R50, R260: State.reset, and the state after a reset from any state, hold the reset table's values. -/
def Obligations.ResetLeavesTheTableValues : Prop :=
  ∀ t : State, (t = State.reset ∨ ∃ s, perform .reset s = .next t) →
    t.st = .idle ∧ t.cnt = 0 ∧ t.ph = 0 ∧ t.k = 0 ∧ (∀ i < 80, isWritten t.pw i = false) ∧ t.sr = 0 ∧ t.lf = 0 ∧
    t.presc = 0 ∧ t.done = false ∧ t.ok = false ∧ t.valid = false ∧ errCode t.err = 0 ∧ t.errBit = 0 ∧
    t.timeoutUs.toNat = 1000 ∧ t.startLowMs.toNat = 18 ∧ dqOe t = false ∧ dqO t = false ∧
    readReg .data0 t = 0 ∧ readReg .data1 t = 0 ∧ readReg .humidity t = 0 ∧ readReg .temperature t = 0

/-- R9, R90: when the next event is a transaction or a tick, the step is `exec` of the decoded operation on the
state without that event; a tick first takes its line sample, in state WAIT only (R14). That the next event is the
oldest of `inbox` is the model's choice (entry 1, DESIGN CHOICE), and that the tick carries its own sample, kept in
`dqS`, is its reading (entry 2, DEDUCED). -/
def Obligations.StepRunsTheDecodedOperation : Prop :=
  (∀ (s : State) (t : TxWord) (rest : List Event), s.inbox = .host t :: rest →
    step s = exec (decode (.bus t)) { s with inbox := rest }) ∧
  (∀ (s : State) (l : Bool) (rest : List Event), s.inbox = .tick l :: rest →
    (s.st = .wait → step s = exec (decode (.tick (stCode s.st))) { s with inbox := rest, dqS := l }) ∧
    (s.st ≠ .wait → step s = exec (decode (.tick (stCode s.st))) { s with inbox := rest }))

/-- What the step does with every other event. The model's choices in it are that an empty queue means a free draw
of the environment (entry 1), that a reset keeps the queue and the draws (entry 15), and what a reset leaves in
`rdata`, `busErr`, `sync` and `dqS` (entries 4, 6, 7, DESIGN CHOICE, unsafe). -/
def Obligations.StepPerformsTheOtherEvents : Prop :=
  (∀ (s : State) (rest : List Event), s.inbox = .reset :: rest →
    step s = .next { State.reset with inbox := rest, draws := s.draws }) ∧
  (∀ (s : State) (a : Access) (rest : List Event), s.inbox = .access a :: rest →
    step s = runAccess a { s with inbox := rest }) ∧
  (∀ (s : State) (p : Pins) (rest : List Event), s.inbox = .cycle p :: rest →
    step s = runCycle p { s with inbox := rest }) ∧
  (∀ s : State, s.inbox = [] →
    step s = perform (Config.environment s.draws) { s with draws := s.draws + 1 })

/-- Entries 12 and 13, the model's choice: the operation that a table word decodes to is the one the next step
runs. -/
def Obligations.FetchWordRunsItsOperation : Prop :=
  ∀ (s : State) (nbits w : Nat) (i : Instr), decodeTableWord nbits w = some i →
    (32 < nbits → step (s.withFetchWord nbits w) = exec i s) ∧
    (nbits ≤ 32 → step (s.withFetchWord nbits w) = exec i { s with st := ofStCode (BitVec.ofNat 3 w) })

/-- Steps over a queue are the run of its events: the block never reads or writes the queue, which is the model's
own (entry 1). -/
def Obligations.QueuedEventsRunInOrder : Prop :=
  ∀ (es rest : List Event) (s t : State), runEvents es { s with inbox := rest } = .next t →
    Host.Core.run Sys2Proof.core es.length { s with inbox := es ++ rest } = .next t

/-! ## Encoding -/

/-- Words written out from R83, R89, R90 and the spec's vectors decode to the operations they stand for. -/
def Obligations.SpecWordsDecode : Prop :=
  decodeBus 0x18000000001#41 = .wrCtrl 0x1#32 ∧ decodeBus 0x08400000000#41 = .rdStatus 0x0#32 ∧
  decodeBus 0x188000000C8#41 = .wrCfgTimeout 0xC8#32 ∧ decodeBus 0x18C00000014#41 = .wrCfgStart 0x14#32 ∧
  decodeBus 0x09C00000000#41 = .rdTemperature 0x0#32 ∧ decodeBus 0x0BC00000000#41 = .rdReserved 0x3C#6 0x0#32 ∧
  decodeBus 0x04400000000#41 = .busErrSubword false 0b01#2 0x04#6 0x0#32 ∧
  decodeBus 0x1C000000001#41 = .busErrSz11 true 0x00#6 0x1#32 ∧
  decodeBus 0x0BF00000000#41 = .busErrOffOdd false 0x3F#6 0x0#32 ∧
  decodeBus 0x18600000001#41 = .busErrOffHalf true 0x06#6 0x1#32 ∧
  decodeTick 0b011#3 = .tickWait ∧ decodeTick 0b101#3 = .tickFinish ∧ decodeTick 0b111#3 = .tickIllegal true

/-- Decoding the word of a well-formed instruction gives the instruction back, with all its operands. -/
def Obligations.DecodeOfEncodeIsTheInstruction : Prop :=
  ∀ i : Instr, wellFormed i = true → decode (encode i) = i

/-- Every operation word decodes to a well-formed instruction, and encoding that gives the word back. -/
def Obligations.EncodeOfDecodeIsTheWord : Prop :=
  ∀ w : OpWord, wellFormed (decode w) = true ∧ encode (decode w) = w

/-- R82, R83, R90, R245: for every transaction word and every state code some row matches, it is the row of the
decoded operation, and no other row matches. -/
def Obligations.OpcodeRowsAreDisjointAndComplete : Prop :=
  (∀ t : TxWord, ∃ r ∈ busRows, t &&& r.2.2 = r.2.1 ∧ r.1 = mnemonic (decodeBus t) ∧
    ∀ q ∈ busRows, t &&& q.2.2 = q.2.1 → q = r) ∧
  (∀ c : BitVec 3, ∃ r ∈ tickRows, c &&& r.2.2 = r.2.1 ∧ r.1 = mnemonic (decodeTick c) ∧
    ∀ q ∈ tickRows, c &&& q.2.2 = q.2.1 → q = r)

/-! ## Host reads -/

/-- R101, R118: reads of CTRL and of the reserved offsets answer 0 without error and change nothing. -/
def Obligations.CtrlAndReservedReadsAnswerZero : Prop :=
  rowReads 0x08000000000#41 .rdCtrl ∧
  (∀ t : TxWord, t &&& 0x1E300000000#41 = 0x0A000000000#41 →
    decodeBus t = .rdReserved (t.extractLsb' 32 6) (t.extractLsb' 0 32)) ∧
  ∀ (d : Word) (off : BitVec 6) (s : State),
    exec (.rdCtrl d) s = .next { s with rdata := 0#32, busErr := false } ∧
    exec (.rdReserved off d) s = .next { s with rdata := 0#32, busErr := false }

/-- R26, R30 to R32, R104, R231: the value of a STATUS read, field by field as a number, and that it changes
nothing; while busy only BUSY and VALID can read 1. -/
def Obligations.StatusReadReturnsTheFlags : Prop :=
  rowReads 0x08400000000#41 .rdStatus ∧
  ∀ (d : Word) (s : State), ∃ v : Word,
    exec (.rdStatus d) s = .next { s with rdata := v, busErr := false } ∧
    v.toNat = (if s.st = .idle then 0 else 1) + 2 * s.done.toNat + 4 * s.ok.toNat + 8 * s.valid.toNat
      + 16 * (match s.err with
        | .none => 0
        | .hsResponse => 1
        | .hsPullup => 2
        | .hsStream => 3
        | .bitMarker => 4
        | .bitData => 5
        | .checksum => 6)
      + 256 * s.errBit.toNat ∧
    (Inv s → s.st ≠ .idle → v.toNat = 1 + 8 * s.valid.toNat)

/-- R106, R108: the configuration registers read as their fields, zero-extended. -/
def Obligations.ConfigReadsReturnTheFields : Prop :=
  rowReads 0x08800000000#41 .rdCfgTimeout ∧ rowReads 0x08C00000000#41 .rdCfgStart ∧
  ∀ (d : Word) (s : State),
    exec (.rdCfgTimeout d) s = .next { s with rdata := BitVec.ofNat 32 s.timeoutUs.toNat, busErr := false } ∧
    exec (.rdCfgStart d) s = .next { s with rdata := BitVec.ofNat 32 s.startLowMs.toNat, busErr := false }

/-- R35, R36, R110, R112: DATA0 and DATA1 read as the bytes of LF; in every state a run reaches DATA1 is the
checksum of DATA0's bytes. -/
def Obligations.DataReadsReturnTheFrameBytes : Prop :=
  rowReads 0x09000000000#41 .rdData0 ∧ rowReads 0x09400000000#41 .rdData1 ∧
  ∀ (d : Word) (s : State), ∃ v0 v1 : Word,
    exec (.rdData0 d) s = .next { s with rdata := v0, busErr := false } ∧
    exec (.rdData1 d) s = .next { s with rdata := v1, busErr := false } ∧
    v0.toNat = byteNat s.lf 0 + 2 ^ 8 * byteNat s.lf 1 + 2 ^ 16 * byteNat s.lf 2 + 2 ^ 24 * byteNat s.lf 3 ∧
    v1.toNat = byteNat s.lf 4 ∧
    (Inv s → v1.toNat = (byteNat s.lf 0 + byteNat s.lf 1 + byteNat s.lf 2 + byteNat s.lf 3) % 256)

/-- R37, R114, R201: HUMIDITY reads as 10*b0 + b1, in 0..2805. -/
def Obligations.HumidityReadReturnsExactTenths : Prop :=
  rowReads 0x09800000000#41 .rdHumidity ∧
  ∀ (d : Word) (s : State), ∃ v : Word,
    exec (.rdHumidity d) s = .next { s with rdata := v, busErr := false } ∧
    v.toNat = 10 * byteNat s.lf 0 + byteNat s.lf 1 ∧ v.toNat ≤ 2805

/-- R38, R116, R202: TEMPERATURE[15:0] is the sign-magnitude value in two's complement, bit 16 is the sign flag
b3[7], and bits 31:17 read 0. -/
def Obligations.TemperatureReadReturnsSignedTenths : Prop :=
  rowReads 0x09C00000000#41 .rdTemperature ∧
  ∀ (d : Word) (s : State), ∃ v : Word,
    exec (.rdTemperature d) s = .next { s with rdata := v, busErr := false } ∧
    (v.extractLsb' 0 16).toInt =
      (if 128 ≤ byteNat s.lf 3 then -((10 * byteNat s.lf 2 + byteNat s.lf 3 % 128 : Nat) : Int)
       else ((10 * byteNat s.lf 2 + byteNat s.lf 3 % 128 : Nat) : Int)) ∧
    v.getLsbD 16 = decide (128 ≤ byteNat s.lf 3) ∧ v.toNat < 2 ^ 17

/-! ## Host writes and refused transactions -/

/-- R102, R103, R266: an accepted START is one atomic update, and every other CTRL write has no effect. -/
def Obligations.CtrlWriteStartsOnlyWhenIdle : Prop :=
  rowReads 0x18000000000#41 .wrCtrl ∧
  ∀ (d : Word) (s : State),
    (d.getLsbD 0 = true → s.st = .idle →
      exec (.wrCtrl d) s = .next { s with
        st := .startLow, cnt := 0, presc := 0, sr := 0, done := false, ok := false, err := .none, errBit := 0,
        rdata := 0#32, busErr := false }) ∧
    (d.getLsbD 0 = false ∨ s.st ≠ .idle →
      exec (.wrCtrl d) s = .next { s with rdata := 0#32, busErr := false })

/-- R105: a STATUS write clears DONE if WDATA[1] = 1 and changes nothing else. -/
def Obligations.StatusWriteClearsDoneOnly : Prop :=
  rowReads 0x18400000000#41 .wrStatus ∧
  ∀ (d : Word) (s : State),
    exec (.wrStatus d) s =
      .next { s with done := s.done && !d.getLsbD 1, rdata := 0#32, busErr := false }

/-- R85, R107, R109, R267: configuration writes are clamped to the legal range, and ignored while busy. -/
def Obligations.ConfigWritesClampAndAreIgnoredWhileBusy : Prop :=
  rowReads 0x18800000000#41 .wrCfgTimeout ∧ rowReads 0x18C00000000#41 .wrCfgStart ∧
  ∀ (d : Word) (s : State),
    (s.st = .idle → ∃ (v : BitVec 16) (w : BitVec 8),
      v.toNat = max 2 (d.toNat % 2 ^ 16) ∧ w.toNat = max 1 (d.toNat % 2 ^ 8) ∧
      exec (.wrCfgTimeout d) s = .next { s with timeoutUs := v, rdata := 0#32, busErr := false } ∧
      exec (.wrCfgStart d) s = .next { s with startLowMs := w, rdata := 0#32, busErr := false }) ∧
    (s.st ≠ .idle →
      exec (.wrCfgTimeout d) s = .next { s with rdata := 0#32, busErr := false } ∧
      exec (.wrCfgStart d) s = .next { s with rdata := 0#32, busErr := false })

/-- R111, R113, R115, R117, R119: writes to read-only registers and reserved offsets are answered without error
and change nothing. -/
def Obligations.ReadOnlyAndReservedWritesAreIgnored : Prop :=
  rowReads 0x19000000000#41 .wrData0 ∧ rowReads 0x19400000000#41 .wrData1 ∧
  rowReads 0x19800000000#41 .wrHumidity ∧ rowReads 0x19C00000000#41 .wrTemperature ∧
  (∀ t : TxWord, t &&& 0x1E300000000#41 = 0x1A000000000#41 →
    decodeBus t = .wrReserved (t.extractLsb' 32 6) (t.extractLsb' 0 32)) ∧
  ∀ (d : Word) (off : BitVec 6) (s : State),
    exec (.wrData0 d) s = .next { s with rdata := 0#32, busErr := false } ∧
    exec (.wrData1 d) s = .next { s with rdata := 0#32, busErr := false } ∧
    exec (.wrHumidity d) s = .next { s with rdata := 0#32, busErr := false } ∧
    exec (.wrTemperature d) s = .next { s with rdata := 0#32, busErr := false } ∧
    exec (.wrReserved off d) s = .next { s with rdata := 0#32, busErr := false }

/-- R120, R236: a refused transaction answers err = 1 and rdata = 0 and changes nothing else; in a clock cycle the
tick is performed as usual. -/
def Obligations.RefusedTransactionsOnlyAnswerAnError : Prop :=
  (∀ t : TxWord, isRefused t ↔
    (t &&& 0x08000000000#41 = 0 ∨ t &&& 0x0C000000000#41 = 0x0C000000000#41 ∨
      t &&& 0x0C100000000#41 = 0x08100000000#41 ∨ t &&& 0x0C300000000#41 = 0x08200000000#41)) ∧
  (∀ (w : Bool) (sz : BitVec 2) (off : BitVec 6) (d : Word) (s : State),
    exec (.busErrSubword w sz off d) s = .next { s with rdata := 0#32, busErr := true } ∧
    exec (.busErrSz11 w off d) s = .next { s with rdata := 0#32, busErr := true } ∧
    exec (.busErrOffOdd w off d) s = .next { s with rdata := 0#32, busErr := true } ∧
    exec (.busErrOffHalf w off d) s = .next { s with rdata := 0#32, busErr := true }) ∧
  ∀ (t : TxWord) (s : State), isRefused t →
    runTransaction t s = .next { s with rdata := 0#32, busErr := true } ∧
    ∀ ext : Bool, runCycle ⟨true, some t, ext⟩ s =
      runCycle ⟨true, none, ext⟩ { s with rdata := 0#32, busErr := true }

/-- R100: every accepted transaction completes with err = 0; a write answers rdata = 0, and a read the word of
the window at its offset, as it stood before. -/
def Obligations.AcceptedTransactionsAnswerWithoutError : Prop :=
  ∀ (t : TxWord) (s : State), ¬ isRefused t → ∃ u : State,
    runTransaction t s = .next u ∧ u.busErr = false ∧ (txW t = true → u.rdata = 0) ∧
    (txW t = false → u.rdata = windowWord ((txOff t).toNat / 4) s)

/-- R67: a read changes nothing but the answer, so repeating it answers the same; a write changes something
only as CTRL, STATUS, CFG_TIMEOUT or CFG_START. -/
def Obligations.ReadsHaveNoSideEffects : Prop :=
  ∀ (t : TxWord) (s u : State), runTransaction t s = .next u →
    (txW t = false → u = { s with rdata := u.rdata, busErr := u.busErr } ∧ runTransaction t u = .next u ∧
      ∀ a, windowByte a u = windowByte a s) ∧
    (txW t = true → 16 ≤ (txOff t).toNat → u = { s with rdata := u.rdata, busErr := u.busErr })

/-- R63, R64: byte lane i of an accepted read is the byte at OFF + i; frame byte i is at byte offset 0x10 + i;
the reserved half of the window reads 0. -/
def Obligations.WindowBytesAreLittleEndianLanes : Prop :=
  (∀ (t : TxWord) (s u : State) (i : Nat), ¬ isRefused t → txW t = false → i < 4 →
    runTransaction t s = .next u →
    u.rdata.extractLsb' (8 * i) 8 = windowByte ((txOff t).toNat + i) s) ∧
  (∀ (s : State) (i : Nat), i < 5 → (windowByte (0x10 + i) s).toNat = byteNat s.lf i) ∧
  (∀ (s : State) (a : Nat), 0x20 ≤ a → windowByte a s = 0)

/-- R60: BASE is a multiple of 64, and a host access inside BASE..BASE+63 is the transaction with OFF = addr - BASE.
That an access outside changes nothing, the kept answer included, is the model's reading: entry 17 (DEDUCED), and
entry 4 (DESIGN CHOICE, unsafe) for `rdata` and `busErr`. -/
def Obligations.OnlyWindowAddressesReachTheBlock : Prop :=
  Config.base % 64 = 0 ∧
  ∀ (a : Access) (s : State),
    (∀ off : BitVec 6, a.addr = Config.base + off.toNat →
      runAccess a s = runTransaction (packTx a.we a.size off a.wdata) s) ∧
    (a.addr < Config.base ∨ Config.base + 64 ≤ a.addr → runAccess a s = .next s)

/-- R75: two states that differ only in what the host cannot see answer every transaction alike, and stay alike.
-/
def Obligations.InternalStateCannotReachTheHost : Prop :=
  ∀ (t : TxWord) (s₁ s₂ u₁ : State), hostVisibleEq s₁ s₂ → runTransaction t s₁ = .next u₁ →
    ∃ u₂ : State, runTransaction t s₂ = .next u₂ ∧ u₁.rdata = u₂.rdata ∧ u₁.busErr = u₂.busErr ∧
      hostVisibleEq u₁ u₂

/-- R144, R146, R266, R267: while an acquisition runs, a transaction changes nothing but its answer and DONE, and
DONE only by a STATUS write that clears it. -/
def Obligations.BusyTransactionsOnlyClearDone : Prop :=
  ∀ (t : TxWord) (s u : State), s.st ≠ .idle → runTransaction t s = .next u →
    u = { s with done := u.done, rdata := u.rdata, busErr := u.busErr } ∧
    (u.done = s.done ∨ u.done = false ∧ ∃ d : Word, decodeBus t = .wrStatus d ∧ d.getLsbD 1 = true)

/-! ## The line and the start condition -/

/-- R21: the line outputs are functions of `st`. -/
def Obligations.LineOutputsFollowTheState : Prop :=
  ∀ s : State,
    (dqOe s = true ↔ s.st = .startLow ∨ s.st = .release) ∧ (dqO s = true ↔ s.st = .release) ∧
    ∀ ext : Bool, lineLevel s ext =
      (match s.st with
      | .startLow => false
      | .release => true
      | _ => ext)

/-- R141: TICK_IDLE changes nothing, and any number of ticks leave an idle block unchanged, whatever the line
does. -/
def Obligations.IdleTicksChangeNothing : Prop :=
  (∀ s : State, exec .tickIdle s = .next s) ∧
  ∀ (levels : List Bool) (s : State), s.st = .idle → runTicks levels s = .next s

/-- R142: the LOW drive lasts exactly START_LOW_MS * 1000 ticks, counted by `cnt` without a wrap, whatever the
line does. -/
def Obligations.StartLowLastsItsTicks : Prop :=
  (∀ s : State,
    (s.cnt.toNat + 1 = s.startLowMs.toNat * 1000 →
      exec .tickStartLow s = .next { s with st := .release, cnt := 0 }) ∧
    (s.cnt.toNat + 1 ≠ s.startLowMs.toNat * 1000 → exec .tickStartLow s = .next { s with cnt := s.cnt + 1 })) ∧
  ∀ (levels : List Bool) (s : State), s.st = .startLow → s.cnt = 0 →
    (levels.length < s.startLowMs.toNat * 1000 → ∃ c : BitVec 18, c.toNat = levels.length ∧
      runTicks levels s = .next { s with cnt := c }) ∧
    (1 ≤ s.startLowMs.toNat → levels.length = s.startLowMs.toNat * 1000 →
      runTicks levels s = .next { s with st := .release, cnt := 0 })

/-- R143: TICK_RELEASE enters phase 0 of WAIT with the line released; until then it was driven HIGH. -/
def Obligations.ReleaseTickEntersPhaseZero : Prop :=
  ∀ s : State, exec .tickRelease s = .next { s with st := .wait, ph := 0, cnt := 0 } ∧
    (s.st = .release → dqOe s = true ∧ dqO s = true ∧
      ∀ l : Bool, ∃ u : State, runTick l s = .next u ∧ u.st = .wait ∧ dqOe u = false ∧ u.dqS = s.dqS)

/-- R140, R145, R272: from the cycle after the one that accepts a START, the line is driven LOW for N*P cycles and
HIGH for P cycles, then released, whatever the host and the line do meanwhile, short of reset. -/
def Obligations.StartConditionHasItsCycleLengths : Prop :=
  ∀ (s : State) (t : TxWord) (d : Word) (ext : Bool) (pins : List Pins),
    Inv s → s.st = .idle → decodeBus t = .wrCtrl d → d.getLsbD 0 = true → (∀ p ∈ pins, p.rstN = true) →
    let N := s.startLowMs.toNat * 1000
    let P := Config.clkPerUs
    pins.length ≤ (N + 1) * P →
    ∃ u : State, runCycles (⟨true, some t, ext⟩ :: pins) s = .next u ∧
      (pins.length < N * P → dqOe u = true ∧ dqO u = false) ∧
      (N * P ≤ pins.length → pins.length < (N + 1) * P → dqOe u = true ∧ dqO u = true) ∧
      (pins.length = (N + 1) * P →
        dqOe u = false ∧ u.st = .wait ∧ u.ph = 0 ∧ u.cnt = 0 ∧ u.presc = 0)

/-! ## The waits -/

/-- R161, R162, R165, R166: a handshake phase counts samples at its level, goes to the next phase when the line
leaves the level, and fails with its own code when the budget runs out. -/
def Obligations.HandshakePhaseEndsByTransitionOrFailure : Prop :=
  ∀ s : State, s.ph.toNat ≤ 2 →
    (s.dqS = decide (s.ph.toNat % 2 = 0) → s.cnt.toNat + 1 < s.timeoutUs.toNat →
      exec .tickWait s = .next { s with cnt := s.cnt + 1 }) ∧
    (s.dqS ≠ decide (s.ph.toNat % 2 = 0) → exec .tickWait s = .next { s with ph := s.ph + 1, cnt := 1 }) ∧
    (s.dqS = decide (s.ph.toNat % 2 = 0) → s.timeoutUs.toNat ≤ s.cnt.toNat + 1 →
      exec .tickWait s = .next { s with
        st := .idle, done := true, ok := false, valid := false, errBit := 0
        err := if s.ph.toNat = 0 then .hsResponse else if s.ph.toNat = 1 then .hsPullup else .hsStream })

/-- R161, R162, R167, R168, R169: a capture phase counts samples at its level and ends by recording the width or
the sentinel; phase 82 then enters DECODE, every other the next phase. -/
def Obligations.CapturePhaseRecordsWidthOrSentinel : Prop :=
  ∀ (s : State) (i : Fin 80), s.ph.toNat = i.val + 3 →
    let level := decide (s.ph.toNat % 2 = 0)
    let wide := some (s.cnt.setWidth 16)
    let gone := some 0xFFFF#16
    (s.dqS = level → s.cnt.toNat + 1 < s.timeoutUs.toNat →
      exec .tickWait s = .next { s with cnt := s.cnt + 1 }) ∧
    (s.dqS ≠ level → i.val < 79 →
      exec .tickWait s = .next { s with pw := s.pw.set i.val wide i.isLt, ph := s.ph + 1, cnt := 1 }) ∧
    (s.dqS ≠ level → i.val = 79 →
      exec .tickWait s = .next { s with pw := s.pw.set i.val wide i.isLt, st := .decode, k := 0 }) ∧
    (s.dqS = level → s.timeoutUs.toNat ≤ s.cnt.toNat + 1 → i.val < 79 →
      exec .tickWait s = .next { s with pw := s.pw.set i.val gone i.isLt, ph := s.ph + 1, cnt := 0 }) ∧
    (s.dqS = level → s.timeoutUs.toNat ≤ s.cnt.toNat + 1 → i.val = 79 →
      exec .tickWait s = .next { s with pw := s.pw.set i.val gone i.isLt, st := .decode, k := 0 })

/-- R163: a capture phase records the number of samples it saw at its level, counting the one that ended the phase
before (cnt = 1) and not the one that ends it. -/
def Obligations.RecordedWidthIsTheSampleCount : Prop :=
  ∀ (s : State) (i n : Nat), s.st = .wait → i < 80 → s.ph.toNat = i + 3 → s.cnt.toNat ≤ n →
    n < s.timeoutUs.toNat →
    let level := decide (s.ph.toNat % 2 = 0)
    ∃ u : State, runTicks (List.replicate (n - s.cnt.toNat) level ++ [!level]) s = .next u ∧
      isWritten u.pw i = true ∧ (pulseAt u.pw i).toNat = n ∧
      (∀ j < 80, j ≠ i → u.pw[j]? = s.pw[j]?) ∧
      (i < 79 → u.st = .wait ∧ u.ph.toNat = i + 4 ∧ u.cnt = 1) ∧ (i = 79 → u.st = .decode ∧ u.k = 0)

/-- R174: a clean waveform passes the handshake, and its pulse lengths are what PW holds in DECODE. -/
def Obligations.CleanWaveformIsCaptured : Prop :=
  ∀ (s : State) (a0 a1 a2 : Nat) (m d : Nat → Nat), s.st = .wait → s.ph = 0 → s.cnt = 0 →
    let T := s.timeoutUs.toNat
    a0 + 1 ≤ T → 1 ≤ a1 ∧ a1 + 1 ≤ T → 1 ≤ a2 ∧ a2 + 1 ≤ T →
    (∀ j < 40, 1 ≤ m j ∧ m j + 1 ≤ T ∧ 1 ≤ d j ∧ d j + 1 ≤ T) →
    ∃ u : State, runTicks (cleanWaveform a0 a1 a2 m d) s = .next u ∧ u.st = .decode ∧ u.k = 0 ∧
      (∀ j < 40, isWritten u.pw (2 * j) = true ∧ (pulseAt u.pw (2 * j)).toNat = m j ∧
        isWritten u.pw (2 * j + 1) = true ∧ (pulseAt u.pw (2 * j + 1)).toNat = d j) ∧
      u.sr = s.sr ∧ u.lf = s.lf ∧ u.valid = s.valid ∧ u.done = s.done ∧ u.ok = s.ok ∧ u.err = s.err ∧
      u.errBit = s.errBit ∧ u.timeoutUs = s.timeoutUs ∧ u.startLowMs = s.startLowMs

/-- R173, R271: with a line that stays HIGH, phase 0 fails with HS_RESPONSE at the T-th WAIT tick, and not
before. -/
def Obligations.SilentSensorFailsAfterTheBudget : Prop :=
  ∀ s : State, s.st = .wait → s.ph = 0 → s.cnt = 0 → 2 ≤ s.timeoutUs.toNat →
    (∀ n < s.timeoutUs.toNat, ∃ c : BitVec 18, c.toNat = n ∧ ∃ q : Bool,
      runTicks (List.replicate n true) s = .next { s with cnt := c, dqS := q }) ∧
    ∃ u : State, runTicks (List.replicate s.timeoutUs.toNat true) s = .next u ∧
      u.st = .idle ∧ u.done = true ∧ u.ok = false ∧ u.valid = false ∧ u.err = .hsResponse ∧ u.errBit = 0 ∧
      u.lf = s.lf ∧ u.pw = s.pw

/-! ## Decode, checksum, completion -/

/-- R190, R191, R193: one decode tick checks the marker, then the data pulse, and otherwise shifts in the bit
d > m. -/
def Obligations.DecodeTickReconstructsOneBit : Prop :=
  ∀ (s : State) (m d : Width), s.pw[2 * s.k.toNat]? = some (some m) → s.pw[2 * s.k.toNat + 1]? = some (some d) →
    (m = 0xFFFF#16 → exec .tickDecode s = .next { s with
      st := .idle, done := true, ok := false, valid := false, err := .bitMarker, errBit := s.k }) ∧
    (m ≠ 0xFFFF#16 → d = 0xFFFF#16 → exec .tickDecode s = .next { s with
      st := .idle, done := true, ok := false, valid := false, err := .bitData, errBit := s.k }) ∧
    (m ≠ 0xFFFF#16 → d ≠ 0xFFFF#16 → ∃ v : Frame,
      v.toNat = (2 * s.sr.toNat + (if m.toNat < d.toNat then 1 else 0)) % 2 ^ 40 ∧
      (s.k.toNat = 39 → exec .tickDecode s = .next { s with sr := v, st := .finish }) ∧
      (s.k.toNat ≠ 39 → exec .tickDecode s = .next { s with sr := v, k := s.k + 1 }))

/-- R51: a decode tick that reads an unwritten pulse register faults. -/
def Obligations.UnwrittenPulseReadFaults : Prop :=
  ∀ s : State,
    (s.pw[2 * s.k.toNat]? = some none → exec .tickDecode s = .fault (.unwrittenPulse (2 * s.k.toNat))) ∧
    (∀ m : Width, s.pw[2 * s.k.toNat]? = some (some m) → s.pw[2 * s.k.toNat + 1]? = some none →
      exec .tickDecode s = .fault (.unwrittenPulse (2 * s.k.toNat + 1)))

/-- R192, R208: decode reports the first sentinel in pulse order, at the tick of its bit. -/
def Obligations.DecodeReportsTheFirstSentinel : Prop :=
  ∀ (s : State) (i : Nat) (levels : List Bool), s.st = .decode → s.k = 0 → (∀ j < 80, isWritten s.pw j = true) →
    i < 80 → pulseAt s.pw i = 0xFFFF#16 → (∀ j < i, pulseAt s.pw j ≠ 0xFFFF#16) →
    (levels.length ≤ i / 2 → ∃ u : State, runTicks levels s = .next u ∧ u.st = .decode) ∧
    (levels.length = i / 2 + 1 → ∃ u : State, runTicks levels s = .next u ∧
      u.st = .idle ∧ u.done = true ∧ u.ok = false ∧ u.valid = false ∧
      u.err = (if i % 2 = 0 then .bitMarker else .bitData) ∧ u.errBit.toNat = i / 2 ∧ u.lf = s.lf)

/-- R194: after 40 decode ticks without a sentinel, bit k sits at SR[39 - k], whatever SR held before. -/
def Obligations.DecodeAlignsTheFrame : Prop :=
  ∀ (s : State) (levels : List Bool), s.st = .decode → s.k = 0 → allMeasured s.pw → levels.length = 40 →
    ∃ u : State, runTicks levels s = .next u ∧ u.st = .finish ∧
      ∀ j < 40, u.sr.getLsbD (39 - j) = decide ((pulseAt s.pw (2 * j)).toNat < (pulseAt s.pw (2 * j + 1)).toNat)

/-- R207: multiplying every pulse width by a positive factor changes no decoded bit. -/
def Obligations.DecodingIsScaleInvariant : Prop :=
  ∀ (s₁ s₂ u₁ u₂ : State) (c : Nat) (levels : List Bool), 0 < c →
    s₁.st = .decode → s₁.k = 0 → s₂.st = .decode → s₂.k = 0 → allMeasured s₁.pw → allMeasured s₂.pw →
    (∀ i < 80, (pulseAt s₂.pw i).toNat = c * (pulseAt s₁.pw i).toNat) → levels.length = 40 →
    runTicks levels s₁ = .next u₁ → runTicks levels s₂ = .next u₂ → u₁.sr = u₂.sr

/-- R195 to R199, R232: the finish tick commits the frame exactly when the checksum holds, and otherwise fails
with CHECKSUM and keeps the last good frame. -/
def Obligations.FinishTickCommitsOrRejects : Prop :=
  ∀ s : State,
    let sum := byteNat s.sr 0 + byteNat s.sr 1 + byteNat s.sr 2 + byteNat s.sr 3
    (sum % 256 = byteNat s.sr 4 → exec .tickFinish s = .next { s with
      st := .idle, lf := s.sr, valid := true, ok := true, err := .none, errBit := 0, done := true }) ∧
    (sum % 256 ≠ byteNat s.sr 4 → exec .tickFinish s = .next { s with
      st := .idle, valid := false, ok := false, err := .checksum, errBit := 0, done := true })

/-- R206: of two acquisitions with the same pulses, whatever the history before each, both commit the same frame
or both fail. -/
def Obligations.CommittedFrameDependsOnlyOnThePulses : Prop :=
  ∀ s₁ s₂ u₁ u₂ : State, Inv s₁ → Inv s₂ → s₁.st = .finish → s₂.st = .finish → s₁.pw = s₂.pw →
    exec .tickFinish s₁ = .next u₁ → exec .tickFinish s₂ = .next u₂ →
    u₁.ok = u₂.ok ∧ (u₁.ok = true → u₁.lf = u₂.lf) ∧ (u₁.ok = false → u₁.lf = s₁.lf ∧ u₁.valid = false)

/-- R245: the illegal state codes return to IDLE, with the line released. -/
def Obligations.IllegalCodesReturnToIdle : Prop :=
  ∀ (s : State) (low : Bool), exec (.tickIllegal low) s = .next { s with st := .idle } ∧
    (s.st = .illegal6 ∨ s.st = .illegal7 → dqOe s = false ∧ ∀ l : Bool, runTick l s = .next { s with st := .idle })

/-- R271, R273: a whole acquisition over a clean waveform. From the state an accepted START leaves, it completes
at exactly the tick of R271's success and CHECKSUM rows, and commits the frame that the relative widths spell. -/
def Obligations.CleanAcquisitionCompletesExactly : Prop :=
  ∀ (s : State) (a0 a1 a2 : Nat) (m d : Nat → Nat) (f : Frame) (before after : List Bool),
    Inv s → s.st = .startLow → s.cnt = 0 →
    let T := s.timeoutUs.toNat
    a0 + 1 ≤ T → 1 ≤ a1 ∧ a1 + 1 ≤ T → 1 ≤ a2 ∧ a2 + 1 ≤ T →
    (∀ j < 40, 1 ≤ m j ∧ m j + 1 ≤ T ∧ 1 ≤ d j ∧ d j + 1 ≤ T) →
    (∀ j < 40, f.getLsbD (39 - j) = decide (m j < d j)) →
    before.length = s.startLowMs.toNat * 1000 + 1 → after.length = 41 →
    let levels := before ++ cleanWaveform a0 a1 a2 m d ++ after
    let sum := byteNat f 0 + byteNat f 1 + byteNat f 2 + byteNat f 3
    (∀ n < levels.length, ∃ u : State, runTicks (levels.take n) s = .next u ∧ u.st ≠ .idle) ∧
    ∃ u : State, runTicks levels s = .next u ∧ u.st = .idle ∧ u.done = true ∧ u.errBit = 0 ∧
      (sum % 256 = byteNat f 4 → u.lf = f ∧ u.ok = true ∧ u.valid = true ∧ u.err = .none) ∧
      (sum % 256 ≠ byteNat f 4 → u.lf = s.lf ∧ u.ok = false ∧ u.valid = false ∧ u.err = .checksum)

/-! ## The whole machine -/

/-- The invariant holds after reset. -/
def Obligations.InvariantHoldsAtReset : Prop := Inv State.reset

/-- Every step from a state with the invariant keeps it, whatever the environment does. -/
def Obligations.EveryStepKeepsTheInvariant : Prop :=
  ∀ s t : State, Inv s → step s = .next t → Inv t

/-- R51: from a state with the invariant no step stops: no rule reads an unwritten pulse register. -/
def Obligations.NoReachableStepStops : Prop :=
  ∀ s : State, Inv s → ∃ t : State, step s = .next t

/-- R274: every acquisition ends, at the latest after N + 1 + (3T - 2) + 80T + 41 ticks, whatever the line does.
-/
def Obligations.EveryAcquisitionEnds : Prop :=
  ∀ (s : State) (levels : List Bool), Inv s → s.st = .startLow → s.cnt = 0 →
    let N := s.startLowMs.toNat * 1000
    let T := s.timeoutUs.toNat
    levels.length = N + 1 + (3 * T - 2) + 80 * T + 41 →
    ∃ n ≤ levels.length, ∃ u : State, runTicks (levels.take n) s = .next u ∧ acquisitionEnded u = true

/-- R164, R173, R274: every tick of a running acquisition lowers the bound on its remaining ticks. -/
def Obligations.EveryBusyTickComesCloserToTheEnd : Prop :=
  ∀ (s : State) (l : Bool), Inv s → s.st ≠ .idle →
    ∃ u : State, runTick l s = .next u ∧ ticksLeft u < ticksLeft s ∧ (u.st = .idle → u.done = true)

/-- R48: the STATUS flags change only as the table of R48 gives: by an accepted START, a DONE clear, a success or
a failure; no other transaction or tick writes them. -/
def Obligations.OnlyTheTabledEventsWriteFlags : Prop :=
  ∀ (e : Event) (s u : State), (∃ t, e = .host t) ∨ (∃ l, e = .tick l) → Inv s → perform e s = .next u →
    (busy u = busy s ∧ u.done = s.done ∧ u.ok = s.ok ∧ u.valid = s.valid ∧ u.err = s.err ∧ u.errBit = s.errBit) ∨
    ((∃ t d, e = .host t ∧ decodeBus t = .wrCtrl d ∧ d.getLsbD 0 = true) ∧ busy s = false ∧ busy u = true ∧
      u.done = false ∧ u.ok = false ∧ u.valid = s.valid ∧ u.err = .none ∧ u.errBit = 0) ∨
    ((∃ t d, e = .host t ∧ decodeBus t = .wrStatus d ∧ d.getLsbD 1 = true) ∧ busy u = busy s ∧
      u.done = false ∧ u.ok = s.ok ∧ u.valid = s.valid ∧ u.err = s.err ∧ u.errBit = s.errBit) ∨
    ((∃ l, e = .tick l) ∧ s.st = .finish ∧ busy u = false ∧
      u.done = true ∧ u.ok = true ∧ u.valid = true ∧ u.err = .none ∧ u.errBit = 0) ∨
    ((∃ l, e = .tick l) ∧ (s.st = .wait ∨ s.st = .decode ∨ s.st = .finish) ∧ busy u = false ∧
      u.done = true ∧ u.ok = false ∧ u.valid = false ∧ u.err ≠ .none ∧
      (u.errBit ≠ 0 → u.err = .bitMarker ∨ u.err = .bitData))

/-- R39: the Reading changes only when a tick completes an acquisition; a success writes LF and VALID together, a
failure VALID only. -/
def Obligations.ReadingChangesOnlyAtCompletion : Prop :=
  ∀ (e : Event) (s u : State), (∃ t, e = .host t) ∨ (∃ l, e = .tick l) ∨ (∃ a, e = .access a) →
    perform e s = .next u →
    (u.lf = s.lf ∧ u.valid = s.valid) ∨
    ((∃ l, e = .tick l) ∧ s.st ≠ .idle ∧ u.st = .idle ∧ u.done = true ∧
      ((u.lf = s.sr ∧ u.valid = true ∧ s.st = .finish) ∨ (u.lf = s.lf ∧ u.valid = false)))

/-- R267: the configuration is constant over every acquisition: no event but reset changes it while busy. -/
def Obligations.ConfigurationIsConstantWhileBusy : Prop :=
  ∀ (e : Event) (s u : State), s.st ≠ .idle → e ≠ .reset → (∀ p, e = .cycle p → p.rstN = true) →
    perform e s = .next u → u.timeoutUs = s.timeoutUs ∧ u.startLowMs = s.startLowMs

/-- R10, R140: a clock cycle is a reset, or its transaction and then exactly one tick if PRESC = CLK_PER_US - 1 and
the transaction is no accepted START, and no tick otherwise; only PRESC and the synchroniser tell it from that
interleaving. That `rdata` and `busErr` keep the last answer in a cycle without a transaction, and are 0 in a reset
cycle without one, is the model's choice (entry 4, DESIGN CHOICE, unsafe). -/
def Obligations.CycleIsTransactionThenTick : Prop :=
  ∀ (p : Pins) (s u : State), runCycle p s = .next u →
    let accepts := ∃ t d, p.req = some t ∧ decodeBus t = .wrCtrl d ∧ d.getLsbD 0 = true ∧ s.st = .idle
    ∃ (es : List Event) (v : State), runEvents es s = .next v ∧
      u = { v with presc := u.presc, sync := u.sync } ∧
      (p.rstN = false → es = [.reset]) ∧
      (p.rstN = true → s.presc = Config.clkPerUs - 1 → ¬ accepts →
        ∃ l : Bool, es = p.req.toList.map Event.host ++ [.tick l]) ∧
      (p.rstN = true → s.presc ≠ Config.clkPerUs - 1 ∨ accepts → es = p.req.toList.map Event.host)

/-- R140: without a transaction, a cycle has a tick exactly when PRESC = CLK_PER_US - 1, and PRESC counts modulo
CLK_PER_US; the tick samples `dq_i` of SYNC_STAGES cycles ago (R14). The synchroniser's layout and `dq_i` in the
cycle are the model's reading (entries 6, 11), and that `rdata` and `busErr` keep the last answer is its choice
(entry 4, DESIGN CHOICE, unsafe). -/
def Obligations.PrescalerMakesTheTicks : Prop :=
  ∀ (ext : Bool) (s : State), ∃ (n : Nat) (l : Bool),
    n = (2 * s.sync + (lineLevel s ext).toNat) % 2 ^ Config.syncStages ∧
    l = (2 * s.sync + (lineLevel s ext).toNat).testBit Config.syncStages ∧
    (s.presc + 1 = Config.clkPerUs →
      runCycle ⟨true, none, ext⟩ s = runTick l { s with presc := 0, sync := n }) ∧
    (s.presc + 1 ≠ Config.clkPerUs →
      runCycle ⟨true, none, ext⟩ s = .next { s with presc := s.presc + 1, sync := n })

/-- R260: a cycle with rst_n = 0 resets the block whatever else its pins say, has no tick, and answers a presented
transaction with rdata = 0, err = 0. That `rdata` and `busErr` are 0 also in a reset cycle that presents no transaction
is the model's choice (entry 4, DESIGN CHOICE, unsafe) and no rule's. -/
def Obligations.ResetCycleOverridesEverything : Prop :=
  ∀ (p : Pins) (s : State), p.rstN = false →
    runCycle p s = perform .reset s ∧
    ∃ u : State, runCycle p s = .next u ∧ u.st = .idle ∧ u.rdata = 0 ∧ u.busErr = false ∧ dqOe u = false ∧
      u.done = false ∧ u.ok = false ∧ u.valid = false ∧ u.lf = 0 ∧ u.timeoutUs.toNat = 1000 ∧
      u.startLowMs.toNat = 18

/-- R269: a STATUS write in the cycle of the completing tick cannot lose the completion. -/
def Obligations.CompletionWinsOverDoneClear : Prop :=
  ∀ (s u v : State) (t : TxWord) (d : Word) (ext : Bool), s.st ≠ .idle → decodeBus t = .wrStatus d →
    runCycle ⟨true, none, ext⟩ s = .next u → u.st = .idle → u.done = true → s.done = false →
    runCycle ⟨true, some t, ext⟩ s = .next v →
    v.done = true ∧ v.st = .idle ∧ v.ok = u.ok ∧ v.valid = u.valid ∧ v.err = u.err ∧ v.errBit = u.errBit ∧
      v.lf = u.lf
end

