-- ==== Sys2Proof/Laws/Decode.lean ====
section
/-! SUPPORT. Laws/Decode.lean: the fields of a packed transaction, and what the decoder reads from one. -/

namespace Sys2Proof

@[simp] theorem txW_packTx (w : Bool) (sz : BitVec 2) (off : BitVec 6) (d : Word) :
    txW (packTx w sz off d) = w := by
  simp only [txW, packTx, BitVec.getLsbD_append]
  simp

@[simp] theorem txSz_packTx (w : Bool) (sz : BitVec 2) (off : BitVec 6) (d : Word) :
    txSz (packTx w sz off d) = sz := by
  ext i hi
  simp only [txSz, packTx, BitVec.getElem_extractLsb', BitVec.getLsbD_append]
  simp [show ¬ 38 + i < 32 by omega, show ¬ 38 + i - 32 < 6 by omega, show 38 + i - 32 - 6 = i by omega, hi]

@[simp] theorem txOff_packTx (w : Bool) (sz : BitVec 2) (off : BitVec 6) (d : Word) :
    txOff (packTx w sz off d) = off := by
  ext i hi
  simp only [txOff, packTx, BitVec.getElem_extractLsb', BitVec.getLsbD_append]
  simp [show ¬ 32 + i < 32 by omega, hi]

@[simp] theorem txWdata_packTx (w : Bool) (sz : BitVec 2) (off : BitVec 6) (d : Word) :
    txWdata (packTx w sz off d) = d := by
  ext i hi
  simp only [txWdata, packTx, BitVec.getElem_extractLsb', BitVec.getLsbD_append]
  simp [hi]

@[simp] theorem packTx_fields (t : TxWord) : packTx (txW t) (txSz t) (txOff t) (txWdata t) = t := by
  apply BitVec.eq_of_getLsbD_eq
  intro i hi
  simp only [txW, txSz, txOff, txWdata, packTx, BitVec.getLsbD_append, BitVec.getLsbD_extractLsb']
  by_cases h1 : i < 32
  · simp [h1]
  by_cases h2 : i < 38
  · simp [h1, show i - 32 < 6 by omega, show 32 + (i - 32) = i by omega]
  by_cases h3 : i < 40
  · simp [h1, show ¬ i - 32 < 6 by omega, show i - 32 - 6 < 2 by omega, show 38 + (i - 32 - 6) = i by omega]
  · have : i = 40 := by omega
    subst this
    simp

@[simp] theorem decodeBus_packTx (w : Bool) (sz : BitVec 2) (off : BitVec 6) (d : Word) :
    decodeBus (packTx w sz off d) = decodeFields w sz off d := by
  simp [decodeBus]

/-- A decoded access of one of the eight registers is the word that `encode` writes for it. -/
theorem encode_decodeRegister (w : Bool) (idx : BitVec 3) (d : Word) :
    encode (decodeRegister w idx d) = encodeAccess w (0#1 ++ idx ++ 0#2) d := by
  have h : ∀ j : BitVec 3, j = 0 ∨ j = 1 ∨ j = 2 ∨ j = 3 ∨ j = 4 ∨ j = 5 ∨ j = 6 ∨ j = 7 := by decide
  rcases h idx with h | h | h | h | h | h | h | h <;> subst h <;> cases w <;> rfl

/-- Register accesses are well-formed whatever their data. -/
theorem wellFormed_decodeRegister (w : Bool) (idx : BitVec 3) (d : Word) :
    wellFormed (decodeRegister w idx d) = true := by
  unfold decodeRegister
  split <;> cases w <;> rfl

/-- Two transaction words with the same fields are the same. -/
theorem tx_ext {t t' : TxWord} (h1 : txW t = txW t') (h2 : txSz t = txSz t') (h3 : txOff t = txOff t')
    (h4 : txWdata t = txWdata t') : t = t' := by
  rw [← packTx_fields t, ← packTx_fields t', h1, h2, h3, h4]

theorem txW_and (t m : TxWord) : txW (t &&& m) = (txW t && txW m) := by
  simp [txW]

theorem txSz_and (t m : TxWord) : txSz (t &&& m) = txSz t &&& txSz m := by
  ext i
  simp [txSz]

theorem txOff_and (t m : TxWord) : txOff (t &&& m) = txOff t &&& txOff m := by
  ext i
  simp [txOff]

theorem txWdata_and (t m : TxWord) : txWdata (t &&& m) = txWdata t &&& txWdata m := by
  ext i
  simp [txWdata]

/-- A word has match `m` under mask `k` exactly when each of its fields has. -/
theorem masked_iff (t k m : TxWord) : t &&& k = m ↔
    (txW t && txW k) = txW m ∧ txSz t &&& txSz k = txSz m ∧ txOff t &&& txOff k = txOff m ∧
      txWdata t &&& txWdata k = txWdata m := by
  constructor
  · rintro rfl
    exact ⟨(txW_and ..).symm, (txSz_and ..).symm, (txOff_and ..).symm, (txWdata_and ..).symm⟩
  · rintro ⟨h1, h2, h3, h4⟩
    apply tx_ext <;> simp [txW_and, txSz_and, txOff_and, txWdata_and, *]

/-- A word under the full mask of W, SZ and OFF is decoded from the fields of its match. -/
theorem decodeBus_of_match {t m : TxWord} (h : t &&& 0x1FF00000000#41 = m) :
    decodeBus t = decodeFields (txW m) (txSz m) (txOff m) (t.extractLsb' 0 32) := by
  have hk : txW 0x1FF00000000#41 = true ∧ txSz 0x1FF00000000#41 = BitVec.allOnes 2 ∧
      txOff 0x1FF00000000#41 = BitVec.allOnes 6 := by decide
  obtain ⟨h1, h2, h3, -⟩ := (masked_iff ..).1 h
  rw [hk.1, Bool.and_true] at h1
  rw [hk.2.1, BitVec.and_allOnes] at h2
  rw [hk.2.2, BitVec.and_allOnes] at h3
  rw [decodeBus, h1, h2, h3, txWdata]

/-- The kind of a transaction does not depend on its data. -/
theorem mnemonic_decodeFields (w : Bool) (sz : BitVec 2) (off : BitVec 6) (d d' : Word) :
    mnemonic (decodeFields w sz off d) = mnemonic (decodeFields w sz off d') := by
  unfold decodeFields decodeRegister
  split_ifs <;> first | rfl | (split <;> rfl)

end Sys2Proof
end

