-- ==== Sys2Proof/Laws/State.lean ====
section
/-! SUPPORT. Laws/State.lean: one lemma per field per named update of the state, each true by rfl. -/

namespace Sys2Proof.Machine

@[simp] theorem respond_st (v : Word) (s : State) : (respond v s).st = s.st := rfl
@[simp] theorem respond_cnt (v : Word) (s : State) : (respond v s).cnt = s.cnt := rfl
@[simp] theorem respond_ph (v : Word) (s : State) : (respond v s).ph = s.ph := rfl
@[simp] theorem respond_k (v : Word) (s : State) : (respond v s).k = s.k := rfl
@[simp] theorem respond_pw (v : Word) (s : State) : (respond v s).pw = s.pw := rfl
@[simp] theorem respond_sr (v : Word) (s : State) : (respond v s).sr = s.sr := rfl
@[simp] theorem respond_lf (v : Word) (s : State) : (respond v s).lf = s.lf := rfl
@[simp] theorem respond_presc (v : Word) (s : State) : (respond v s).presc = s.presc := rfl
@[simp] theorem respond_done (v : Word) (s : State) : (respond v s).done = s.done := rfl
@[simp] theorem respond_ok (v : Word) (s : State) : (respond v s).ok = s.ok := rfl
@[simp] theorem respond_valid (v : Word) (s : State) : (respond v s).valid = s.valid := rfl
@[simp] theorem respond_err (v : Word) (s : State) : (respond v s).err = s.err := rfl
@[simp] theorem respond_errBit (v : Word) (s : State) : (respond v s).errBit = s.errBit := rfl
@[simp] theorem respond_timeoutUs (v : Word) (s : State) : (respond v s).timeoutUs = s.timeoutUs := rfl
@[simp] theorem respond_startLowMs (v : Word) (s : State) : (respond v s).startLowMs = s.startLowMs := rfl
@[simp] theorem respond_rdata (v : Word) (s : State) : (respond v s).rdata = v := rfl
@[simp] theorem respond_busErr (v : Word) (s : State) : (respond v s).busErr = false := rfl
@[simp] theorem respond_dqS (v : Word) (s : State) : (respond v s).dqS = s.dqS := rfl
@[simp] theorem respond_sync (v : Word) (s : State) : (respond v s).sync = s.sync := rfl
@[simp] theorem respond_inbox (v : Word) (s : State) : (respond v s).inbox = s.inbox := rfl
@[simp] theorem respond_draws (v : Word) (s : State) : (respond v s).draws = s.draws := rfl

@[simp] theorem raiseBusError_st (s : State) : (raiseBusError s).st = s.st := rfl
@[simp] theorem raiseBusError_cnt (s : State) : (raiseBusError s).cnt = s.cnt := rfl
@[simp] theorem raiseBusError_ph (s : State) : (raiseBusError s).ph = s.ph := rfl
@[simp] theorem raiseBusError_k (s : State) : (raiseBusError s).k = s.k := rfl
@[simp] theorem raiseBusError_pw (s : State) : (raiseBusError s).pw = s.pw := rfl
@[simp] theorem raiseBusError_sr (s : State) : (raiseBusError s).sr = s.sr := rfl
@[simp] theorem raiseBusError_lf (s : State) : (raiseBusError s).lf = s.lf := rfl
@[simp] theorem raiseBusError_presc (s : State) : (raiseBusError s).presc = s.presc := rfl
@[simp] theorem raiseBusError_done (s : State) : (raiseBusError s).done = s.done := rfl
@[simp] theorem raiseBusError_ok (s : State) : (raiseBusError s).ok = s.ok := rfl
@[simp] theorem raiseBusError_valid (s : State) : (raiseBusError s).valid = s.valid := rfl
@[simp] theorem raiseBusError_err (s : State) : (raiseBusError s).err = s.err := rfl
@[simp] theorem raiseBusError_errBit (s : State) : (raiseBusError s).errBit = s.errBit := rfl
@[simp] theorem raiseBusError_timeoutUs (s : State) : (raiseBusError s).timeoutUs = s.timeoutUs := rfl
@[simp] theorem raiseBusError_startLowMs (s : State) : (raiseBusError s).startLowMs = s.startLowMs := rfl
@[simp] theorem raiseBusError_rdata (s : State) : (raiseBusError s).rdata = 0 := rfl
@[simp] theorem raiseBusError_busErr (s : State) : (raiseBusError s).busErr = true := rfl
@[simp] theorem raiseBusError_dqS (s : State) : (raiseBusError s).dqS = s.dqS := rfl
@[simp] theorem raiseBusError_sync (s : State) : (raiseBusError s).sync = s.sync := rfl
@[simp] theorem raiseBusError_inbox (s : State) : (raiseBusError s).inbox = s.inbox := rfl
@[simp] theorem raiseBusError_draws (s : State) : (raiseBusError s).draws = s.draws := rfl

@[simp] theorem flagsOnStart_st (s : State) : (flagsOnStart s).st = s.st := rfl
@[simp] theorem flagsOnStart_cnt (s : State) : (flagsOnStart s).cnt = s.cnt := rfl
@[simp] theorem flagsOnStart_ph (s : State) : (flagsOnStart s).ph = s.ph := rfl
@[simp] theorem flagsOnStart_k (s : State) : (flagsOnStart s).k = s.k := rfl
@[simp] theorem flagsOnStart_pw (s : State) : (flagsOnStart s).pw = s.pw := rfl
@[simp] theorem flagsOnStart_sr (s : State) : (flagsOnStart s).sr = s.sr := rfl
@[simp] theorem flagsOnStart_lf (s : State) : (flagsOnStart s).lf = s.lf := rfl
@[simp] theorem flagsOnStart_presc (s : State) : (flagsOnStart s).presc = s.presc := rfl
@[simp] theorem flagsOnStart_done (s : State) : (flagsOnStart s).done = false := rfl
@[simp] theorem flagsOnStart_ok (s : State) : (flagsOnStart s).ok = false := rfl
@[simp] theorem flagsOnStart_valid (s : State) : (flagsOnStart s).valid = s.valid := rfl
@[simp] theorem flagsOnStart_err (s : State) : (flagsOnStart s).err = .none := rfl
@[simp] theorem flagsOnStart_errBit (s : State) : (flagsOnStart s).errBit = 0 := rfl
@[simp] theorem flagsOnStart_timeoutUs (s : State) : (flagsOnStart s).timeoutUs = s.timeoutUs := rfl
@[simp] theorem flagsOnStart_startLowMs (s : State) : (flagsOnStart s).startLowMs = s.startLowMs := rfl
@[simp] theorem flagsOnStart_rdata (s : State) : (flagsOnStart s).rdata = s.rdata := rfl
@[simp] theorem flagsOnStart_busErr (s : State) : (flagsOnStart s).busErr = s.busErr := rfl
@[simp] theorem flagsOnStart_dqS (s : State) : (flagsOnStart s).dqS = s.dqS := rfl
@[simp] theorem flagsOnStart_sync (s : State) : (flagsOnStart s).sync = s.sync := rfl
@[simp] theorem flagsOnStart_inbox (s : State) : (flagsOnStart s).inbox = s.inbox := rfl
@[simp] theorem flagsOnStart_draws (s : State) : (flagsOnStart s).draws = s.draws := rfl

@[simp] theorem clearDone_st (s : State) : (clearDone s).st = s.st := rfl
@[simp] theorem clearDone_cnt (s : State) : (clearDone s).cnt = s.cnt := rfl
@[simp] theorem clearDone_ph (s : State) : (clearDone s).ph = s.ph := rfl
@[simp] theorem clearDone_k (s : State) : (clearDone s).k = s.k := rfl
@[simp] theorem clearDone_pw (s : State) : (clearDone s).pw = s.pw := rfl
@[simp] theorem clearDone_sr (s : State) : (clearDone s).sr = s.sr := rfl
@[simp] theorem clearDone_lf (s : State) : (clearDone s).lf = s.lf := rfl
@[simp] theorem clearDone_presc (s : State) : (clearDone s).presc = s.presc := rfl
@[simp] theorem clearDone_done (s : State) : (clearDone s).done = false := rfl
@[simp] theorem clearDone_ok (s : State) : (clearDone s).ok = s.ok := rfl
@[simp] theorem clearDone_valid (s : State) : (clearDone s).valid = s.valid := rfl
@[simp] theorem clearDone_err (s : State) : (clearDone s).err = s.err := rfl
@[simp] theorem clearDone_errBit (s : State) : (clearDone s).errBit = s.errBit := rfl
@[simp] theorem clearDone_timeoutUs (s : State) : (clearDone s).timeoutUs = s.timeoutUs := rfl
@[simp] theorem clearDone_startLowMs (s : State) : (clearDone s).startLowMs = s.startLowMs := rfl
@[simp] theorem clearDone_rdata (s : State) : (clearDone s).rdata = s.rdata := rfl
@[simp] theorem clearDone_busErr (s : State) : (clearDone s).busErr = s.busErr := rfl
@[simp] theorem clearDone_dqS (s : State) : (clearDone s).dqS = s.dqS := rfl
@[simp] theorem clearDone_sync (s : State) : (clearDone s).sync = s.sync := rfl
@[simp] theorem clearDone_inbox (s : State) : (clearDone s).inbox = s.inbox := rfl
@[simp] theorem clearDone_draws (s : State) : (clearDone s).draws = s.draws := rfl

@[simp] theorem flagsOnSuccess_st (s : State) : (flagsOnSuccess s).st = s.st := rfl
@[simp] theorem flagsOnSuccess_cnt (s : State) : (flagsOnSuccess s).cnt = s.cnt := rfl
@[simp] theorem flagsOnSuccess_ph (s : State) : (flagsOnSuccess s).ph = s.ph := rfl
@[simp] theorem flagsOnSuccess_k (s : State) : (flagsOnSuccess s).k = s.k := rfl
@[simp] theorem flagsOnSuccess_pw (s : State) : (flagsOnSuccess s).pw = s.pw := rfl
@[simp] theorem flagsOnSuccess_sr (s : State) : (flagsOnSuccess s).sr = s.sr := rfl
@[simp] theorem flagsOnSuccess_lf (s : State) : (flagsOnSuccess s).lf = s.lf := rfl
@[simp] theorem flagsOnSuccess_presc (s : State) : (flagsOnSuccess s).presc = s.presc := rfl
@[simp] theorem flagsOnSuccess_done (s : State) : (flagsOnSuccess s).done = true := rfl
@[simp] theorem flagsOnSuccess_ok (s : State) : (flagsOnSuccess s).ok = true := rfl
@[simp] theorem flagsOnSuccess_valid (s : State) : (flagsOnSuccess s).valid = true := rfl
@[simp] theorem flagsOnSuccess_err (s : State) : (flagsOnSuccess s).err = .none := rfl
@[simp] theorem flagsOnSuccess_errBit (s : State) : (flagsOnSuccess s).errBit = 0 := rfl
@[simp] theorem flagsOnSuccess_timeoutUs (s : State) : (flagsOnSuccess s).timeoutUs = s.timeoutUs := rfl
@[simp] theorem flagsOnSuccess_startLowMs (s : State) : (flagsOnSuccess s).startLowMs = s.startLowMs := rfl
@[simp] theorem flagsOnSuccess_rdata (s : State) : (flagsOnSuccess s).rdata = s.rdata := rfl
@[simp] theorem flagsOnSuccess_busErr (s : State) : (flagsOnSuccess s).busErr = s.busErr := rfl
@[simp] theorem flagsOnSuccess_dqS (s : State) : (flagsOnSuccess s).dqS = s.dqS := rfl
@[simp] theorem flagsOnSuccess_sync (s : State) : (flagsOnSuccess s).sync = s.sync := rfl
@[simp] theorem flagsOnSuccess_inbox (s : State) : (flagsOnSuccess s).inbox = s.inbox := rfl
@[simp] theorem flagsOnSuccess_draws (s : State) : (flagsOnSuccess s).draws = s.draws := rfl

@[simp] theorem flagsOnFailure_st (c : FailCode) (b : BitVec 6) (s : State) : (flagsOnFailure c b s).st = s.st := rfl
@[simp] theorem flagsOnFailure_cnt (c : FailCode) (b : BitVec 6) (s : State) : (flagsOnFailure c b s).cnt = s.cnt := rfl
@[simp] theorem flagsOnFailure_ph (c : FailCode) (b : BitVec 6) (s : State) : (flagsOnFailure c b s).ph = s.ph := rfl
@[simp] theorem flagsOnFailure_k (c : FailCode) (b : BitVec 6) (s : State) : (flagsOnFailure c b s).k = s.k := rfl
@[simp] theorem flagsOnFailure_pw (c : FailCode) (b : BitVec 6) (s : State) : (flagsOnFailure c b s).pw = s.pw := rfl
@[simp] theorem flagsOnFailure_sr (c : FailCode) (b : BitVec 6) (s : State) : (flagsOnFailure c b s).sr = s.sr := rfl
@[simp] theorem flagsOnFailure_lf (c : FailCode) (b : BitVec 6) (s : State) : (flagsOnFailure c b s).lf = s.lf := rfl
@[simp] theorem flagsOnFailure_presc (c : FailCode) (b : BitVec 6) (s : State) : (flagsOnFailure c b s).presc = s.presc := rfl
@[simp] theorem flagsOnFailure_done (c : FailCode) (b : BitVec 6) (s : State) : (flagsOnFailure c b s).done = true := rfl
@[simp] theorem flagsOnFailure_ok (c : FailCode) (b : BitVec 6) (s : State) : (flagsOnFailure c b s).ok = false := rfl
@[simp] theorem flagsOnFailure_valid (c : FailCode) (b : BitVec 6) (s : State) : (flagsOnFailure c b s).valid = false := rfl
@[simp] theorem flagsOnFailure_err (c : FailCode) (b : BitVec 6) (s : State) : (flagsOnFailure c b s).err = c := rfl
@[simp] theorem flagsOnFailure_errBit (c : FailCode) (b : BitVec 6) (s : State) : (flagsOnFailure c b s).errBit = b := rfl
@[simp] theorem flagsOnFailure_timeoutUs (c : FailCode) (b : BitVec 6) (s : State) : (flagsOnFailure c b s).timeoutUs = s.timeoutUs := rfl
@[simp] theorem flagsOnFailure_startLowMs (c : FailCode) (b : BitVec 6) (s : State) : (flagsOnFailure c b s).startLowMs = s.startLowMs := rfl
@[simp] theorem flagsOnFailure_rdata (c : FailCode) (b : BitVec 6) (s : State) : (flagsOnFailure c b s).rdata = s.rdata := rfl
@[simp] theorem flagsOnFailure_busErr (c : FailCode) (b : BitVec 6) (s : State) : (flagsOnFailure c b s).busErr = s.busErr := rfl
@[simp] theorem flagsOnFailure_dqS (c : FailCode) (b : BitVec 6) (s : State) : (flagsOnFailure c b s).dqS = s.dqS := rfl
@[simp] theorem flagsOnFailure_sync (c : FailCode) (b : BitVec 6) (s : State) : (flagsOnFailure c b s).sync = s.sync := rfl
@[simp] theorem flagsOnFailure_inbox (c : FailCode) (b : BitVec 6) (s : State) : (flagsOnFailure c b s).inbox = s.inbox := rfl
@[simp] theorem flagsOnFailure_draws (c : FailCode) (b : BitVec 6) (s : State) : (flagsOnFailure c b s).draws = s.draws := rfl

@[simp] theorem startAcquisition_st (s : State) : (startAcquisition s).st = .startLow := rfl
@[simp] theorem startAcquisition_cnt (s : State) : (startAcquisition s).cnt = 0 := rfl
@[simp] theorem startAcquisition_ph (s : State) : (startAcquisition s).ph = s.ph := rfl
@[simp] theorem startAcquisition_k (s : State) : (startAcquisition s).k = s.k := rfl
@[simp] theorem startAcquisition_pw (s : State) : (startAcquisition s).pw = s.pw := rfl
@[simp] theorem startAcquisition_sr (s : State) : (startAcquisition s).sr = 0 := rfl
@[simp] theorem startAcquisition_lf (s : State) : (startAcquisition s).lf = s.lf := rfl
@[simp] theorem startAcquisition_presc (s : State) : (startAcquisition s).presc = 0 := rfl
@[simp] theorem startAcquisition_done (s : State) : (startAcquisition s).done = false := rfl
@[simp] theorem startAcquisition_ok (s : State) : (startAcquisition s).ok = false := rfl
@[simp] theorem startAcquisition_valid (s : State) : (startAcquisition s).valid = s.valid := rfl
@[simp] theorem startAcquisition_err (s : State) : (startAcquisition s).err = .none := rfl
@[simp] theorem startAcquisition_errBit (s : State) : (startAcquisition s).errBit = 0 := rfl
@[simp] theorem startAcquisition_timeoutUs (s : State) : (startAcquisition s).timeoutUs = s.timeoutUs := rfl
@[simp] theorem startAcquisition_startLowMs (s : State) : (startAcquisition s).startLowMs = s.startLowMs := rfl
@[simp] theorem startAcquisition_rdata (s : State) : (startAcquisition s).rdata = s.rdata := rfl
@[simp] theorem startAcquisition_busErr (s : State) : (startAcquisition s).busErr = s.busErr := rfl
@[simp] theorem startAcquisition_dqS (s : State) : (startAcquisition s).dqS = s.dqS := rfl
@[simp] theorem startAcquisition_sync (s : State) : (startAcquisition s).sync = s.sync := rfl
@[simp] theorem startAcquisition_inbox (s : State) : (startAcquisition s).inbox = s.inbox := rfl
@[simp] theorem startAcquisition_draws (s : State) : (startAcquisition s).draws = s.draws := rfl

@[simp] theorem completeOk_st (s : State) : (completeOk s).st = .idle := rfl
@[simp] theorem completeOk_cnt (s : State) : (completeOk s).cnt = s.cnt := rfl
@[simp] theorem completeOk_ph (s : State) : (completeOk s).ph = s.ph := rfl
@[simp] theorem completeOk_k (s : State) : (completeOk s).k = s.k := rfl
@[simp] theorem completeOk_pw (s : State) : (completeOk s).pw = s.pw := rfl
@[simp] theorem completeOk_sr (s : State) : (completeOk s).sr = s.sr := rfl
@[simp] theorem completeOk_lf (s : State) : (completeOk s).lf = s.sr := rfl
@[simp] theorem completeOk_presc (s : State) : (completeOk s).presc = s.presc := rfl
@[simp] theorem completeOk_done (s : State) : (completeOk s).done = true := rfl
@[simp] theorem completeOk_ok (s : State) : (completeOk s).ok = true := rfl
@[simp] theorem completeOk_valid (s : State) : (completeOk s).valid = true := rfl
@[simp] theorem completeOk_err (s : State) : (completeOk s).err = .none := rfl
@[simp] theorem completeOk_errBit (s : State) : (completeOk s).errBit = 0 := rfl
@[simp] theorem completeOk_timeoutUs (s : State) : (completeOk s).timeoutUs = s.timeoutUs := rfl
@[simp] theorem completeOk_startLowMs (s : State) : (completeOk s).startLowMs = s.startLowMs := rfl
@[simp] theorem completeOk_rdata (s : State) : (completeOk s).rdata = s.rdata := rfl
@[simp] theorem completeOk_busErr (s : State) : (completeOk s).busErr = s.busErr := rfl
@[simp] theorem completeOk_dqS (s : State) : (completeOk s).dqS = s.dqS := rfl
@[simp] theorem completeOk_sync (s : State) : (completeOk s).sync = s.sync := rfl
@[simp] theorem completeOk_inbox (s : State) : (completeOk s).inbox = s.inbox := rfl
@[simp] theorem completeOk_draws (s : State) : (completeOk s).draws = s.draws := rfl

@[simp] theorem completeFail_st (c : FailCode) (b : BitVec 6) (s : State) : (completeFail c b s).st = .idle := rfl
@[simp] theorem completeFail_cnt (c : FailCode) (b : BitVec 6) (s : State) : (completeFail c b s).cnt = s.cnt := rfl
@[simp] theorem completeFail_ph (c : FailCode) (b : BitVec 6) (s : State) : (completeFail c b s).ph = s.ph := rfl
@[simp] theorem completeFail_k (c : FailCode) (b : BitVec 6) (s : State) : (completeFail c b s).k = s.k := rfl
@[simp] theorem completeFail_pw (c : FailCode) (b : BitVec 6) (s : State) : (completeFail c b s).pw = s.pw := rfl
@[simp] theorem completeFail_sr (c : FailCode) (b : BitVec 6) (s : State) : (completeFail c b s).sr = s.sr := rfl
@[simp] theorem completeFail_lf (c : FailCode) (b : BitVec 6) (s : State) : (completeFail c b s).lf = s.lf := rfl
@[simp] theorem completeFail_presc (c : FailCode) (b : BitVec 6) (s : State) : (completeFail c b s).presc = s.presc := rfl
@[simp] theorem completeFail_done (c : FailCode) (b : BitVec 6) (s : State) : (completeFail c b s).done = true := rfl
@[simp] theorem completeFail_ok (c : FailCode) (b : BitVec 6) (s : State) : (completeFail c b s).ok = false := rfl
@[simp] theorem completeFail_valid (c : FailCode) (b : BitVec 6) (s : State) : (completeFail c b s).valid = false := rfl
@[simp] theorem completeFail_err (c : FailCode) (b : BitVec 6) (s : State) : (completeFail c b s).err = c := rfl
@[simp] theorem completeFail_errBit (c : FailCode) (b : BitVec 6) (s : State) : (completeFail c b s).errBit = b := rfl
@[simp] theorem completeFail_timeoutUs (c : FailCode) (b : BitVec 6) (s : State) : (completeFail c b s).timeoutUs = s.timeoutUs := rfl
@[simp] theorem completeFail_startLowMs (c : FailCode) (b : BitVec 6) (s : State) : (completeFail c b s).startLowMs = s.startLowMs := rfl
@[simp] theorem completeFail_rdata (c : FailCode) (b : BitVec 6) (s : State) : (completeFail c b s).rdata = s.rdata := rfl
@[simp] theorem completeFail_busErr (c : FailCode) (b : BitVec 6) (s : State) : (completeFail c b s).busErr = s.busErr := rfl
@[simp] theorem completeFail_dqS (c : FailCode) (b : BitVec 6) (s : State) : (completeFail c b s).dqS = s.dqS := rfl
@[simp] theorem completeFail_sync (c : FailCode) (b : BitVec 6) (s : State) : (completeFail c b s).sync = s.sync := rfl
@[simp] theorem completeFail_inbox (c : FailCode) (b : BitVec 6) (s : State) : (completeFail c b s).inbox = s.inbox := rfl
@[simp] theorem completeFail_draws (c : FailCode) (b : BitVec 6) (s : State) : (completeFail c b s).draws = s.draws := rfl

@[simp] theorem resetBlock_st (s : State) : (resetBlock s).st = State.reset.st := rfl
@[simp] theorem resetBlock_cnt (s : State) : (resetBlock s).cnt = State.reset.cnt := rfl
@[simp] theorem resetBlock_ph (s : State) : (resetBlock s).ph = State.reset.ph := rfl
@[simp] theorem resetBlock_k (s : State) : (resetBlock s).k = State.reset.k := rfl
@[simp] theorem resetBlock_pw (s : State) : (resetBlock s).pw = State.reset.pw := rfl
@[simp] theorem resetBlock_sr (s : State) : (resetBlock s).sr = State.reset.sr := rfl
@[simp] theorem resetBlock_lf (s : State) : (resetBlock s).lf = State.reset.lf := rfl
@[simp] theorem resetBlock_presc (s : State) : (resetBlock s).presc = State.reset.presc := rfl
@[simp] theorem resetBlock_done (s : State) : (resetBlock s).done = State.reset.done := rfl
@[simp] theorem resetBlock_ok (s : State) : (resetBlock s).ok = State.reset.ok := rfl
@[simp] theorem resetBlock_valid (s : State) : (resetBlock s).valid = State.reset.valid := rfl
@[simp] theorem resetBlock_err (s : State) : (resetBlock s).err = State.reset.err := rfl
@[simp] theorem resetBlock_errBit (s : State) : (resetBlock s).errBit = State.reset.errBit := rfl
@[simp] theorem resetBlock_timeoutUs (s : State) : (resetBlock s).timeoutUs = State.reset.timeoutUs := rfl
@[simp] theorem resetBlock_startLowMs (s : State) : (resetBlock s).startLowMs = State.reset.startLowMs := rfl
@[simp] theorem resetBlock_rdata (s : State) : (resetBlock s).rdata = State.reset.rdata := rfl
@[simp] theorem resetBlock_busErr (s : State) : (resetBlock s).busErr = State.reset.busErr := rfl
@[simp] theorem resetBlock_dqS (s : State) : (resetBlock s).dqS = State.reset.dqS := rfl
@[simp] theorem resetBlock_sync (s : State) : (resetBlock s).sync = State.reset.sync := rfl
@[simp] theorem resetBlock_inbox (s : State) : (resetBlock s).inbox = s.inbox := rfl
@[simp] theorem resetBlock_draws (s : State) : (resetBlock s).draws = s.draws := rfl

@[simp] theorem reset_st : State.reset.st = .idle := rfl
@[simp] theorem reset_cnt : State.reset.cnt = 0 := rfl
@[simp] theorem reset_ph : State.reset.ph = 0 := rfl
@[simp] theorem reset_k : State.reset.k = 0 := rfl
@[simp] theorem reset_pw : State.reset.pw = Vector.replicate 80 none := rfl
@[simp] theorem reset_sr : State.reset.sr = 0 := rfl
@[simp] theorem reset_lf : State.reset.lf = 0 := rfl
@[simp] theorem reset_presc : State.reset.presc = 0 := rfl
@[simp] theorem reset_done : State.reset.done = false := rfl
@[simp] theorem reset_ok : State.reset.ok = false := rfl
@[simp] theorem reset_valid : State.reset.valid = false := rfl
@[simp] theorem reset_err : State.reset.err = .none := rfl
@[simp] theorem reset_errBit : State.reset.errBit = 0 := rfl
@[simp] theorem reset_timeoutUs : State.reset.timeoutUs = 0x03E8#16 := rfl
@[simp] theorem reset_startLowMs : State.reset.startLowMs = 0x12#8 := rfl
@[simp] theorem reset_rdata : State.reset.rdata = 0 := rfl
@[simp] theorem reset_busErr : State.reset.busErr = false := rfl
@[simp] theorem reset_dqS : State.reset.dqS = false := rfl
@[simp] theorem reset_sync : State.reset.sync = 0 := rfl
@[simp] theorem reset_inbox : State.reset.inbox = [] := rfl
@[simp] theorem reset_draws : State.reset.draws = 0 := rfl

@[simp] theorem writeTimeout_st (d : Word) (s : State) : (writeTimeout d s).st = s.st := by
  unfold writeTimeout; split <;> rfl
@[simp] theorem writeTimeout_cnt (d : Word) (s : State) : (writeTimeout d s).cnt = s.cnt := by
  unfold writeTimeout; split <;> rfl
@[simp] theorem writeTimeout_ph (d : Word) (s : State) : (writeTimeout d s).ph = s.ph := by
  unfold writeTimeout; split <;> rfl
@[simp] theorem writeTimeout_k (d : Word) (s : State) : (writeTimeout d s).k = s.k := by
  unfold writeTimeout; split <;> rfl
@[simp] theorem writeTimeout_pw (d : Word) (s : State) : (writeTimeout d s).pw = s.pw := by
  unfold writeTimeout; split <;> rfl
@[simp] theorem writeTimeout_sr (d : Word) (s : State) : (writeTimeout d s).sr = s.sr := by
  unfold writeTimeout; split <;> rfl
@[simp] theorem writeTimeout_lf (d : Word) (s : State) : (writeTimeout d s).lf = s.lf := by
  unfold writeTimeout; split <;> rfl
@[simp] theorem writeTimeout_presc (d : Word) (s : State) : (writeTimeout d s).presc = s.presc := by
  unfold writeTimeout; split <;> rfl
@[simp] theorem writeTimeout_done (d : Word) (s : State) : (writeTimeout d s).done = s.done := by
  unfold writeTimeout; split <;> rfl
@[simp] theorem writeTimeout_ok (d : Word) (s : State) : (writeTimeout d s).ok = s.ok := by
  unfold writeTimeout; split <;> rfl
@[simp] theorem writeTimeout_valid (d : Word) (s : State) : (writeTimeout d s).valid = s.valid := by
  unfold writeTimeout; split <;> rfl
@[simp] theorem writeTimeout_err (d : Word) (s : State) : (writeTimeout d s).err = s.err := by
  unfold writeTimeout; split <;> rfl
@[simp] theorem writeTimeout_errBit (d : Word) (s : State) : (writeTimeout d s).errBit = s.errBit := by
  unfold writeTimeout; split <;> rfl
@[simp] theorem writeTimeout_startLowMs (d : Word) (s : State) : (writeTimeout d s).startLowMs = s.startLowMs := by
  unfold writeTimeout; split <;> rfl
@[simp] theorem writeTimeout_rdata (d : Word) (s : State) : (writeTimeout d s).rdata = s.rdata := by
  unfold writeTimeout; split <;> rfl
@[simp] theorem writeTimeout_busErr (d : Word) (s : State) : (writeTimeout d s).busErr = s.busErr := by
  unfold writeTimeout; split <;> rfl
@[simp] theorem writeTimeout_dqS (d : Word) (s : State) : (writeTimeout d s).dqS = s.dqS := by
  unfold writeTimeout; split <;> rfl
@[simp] theorem writeTimeout_sync (d : Word) (s : State) : (writeTimeout d s).sync = s.sync := by
  unfold writeTimeout; split <;> rfl
@[simp] theorem writeTimeout_inbox (d : Word) (s : State) : (writeTimeout d s).inbox = s.inbox := by
  unfold writeTimeout; split <;> rfl
@[simp] theorem writeTimeout_draws (d : Word) (s : State) : (writeTimeout d s).draws = s.draws := by
  unfold writeTimeout; split <;> rfl

@[simp] theorem writeStartLow_st (d : Word) (s : State) : (writeStartLow d s).st = s.st := by
  unfold writeStartLow; split <;> rfl
@[simp] theorem writeStartLow_cnt (d : Word) (s : State) : (writeStartLow d s).cnt = s.cnt := by
  unfold writeStartLow; split <;> rfl
@[simp] theorem writeStartLow_ph (d : Word) (s : State) : (writeStartLow d s).ph = s.ph := by
  unfold writeStartLow; split <;> rfl
@[simp] theorem writeStartLow_k (d : Word) (s : State) : (writeStartLow d s).k = s.k := by
  unfold writeStartLow; split <;> rfl
@[simp] theorem writeStartLow_pw (d : Word) (s : State) : (writeStartLow d s).pw = s.pw := by
  unfold writeStartLow; split <;> rfl
@[simp] theorem writeStartLow_sr (d : Word) (s : State) : (writeStartLow d s).sr = s.sr := by
  unfold writeStartLow; split <;> rfl
@[simp] theorem writeStartLow_lf (d : Word) (s : State) : (writeStartLow d s).lf = s.lf := by
  unfold writeStartLow; split <;> rfl
@[simp] theorem writeStartLow_presc (d : Word) (s : State) : (writeStartLow d s).presc = s.presc := by
  unfold writeStartLow; split <;> rfl
@[simp] theorem writeStartLow_done (d : Word) (s : State) : (writeStartLow d s).done = s.done := by
  unfold writeStartLow; split <;> rfl
@[simp] theorem writeStartLow_ok (d : Word) (s : State) : (writeStartLow d s).ok = s.ok := by
  unfold writeStartLow; split <;> rfl
@[simp] theorem writeStartLow_valid (d : Word) (s : State) : (writeStartLow d s).valid = s.valid := by
  unfold writeStartLow; split <;> rfl
@[simp] theorem writeStartLow_err (d : Word) (s : State) : (writeStartLow d s).err = s.err := by
  unfold writeStartLow; split <;> rfl
@[simp] theorem writeStartLow_errBit (d : Word) (s : State) : (writeStartLow d s).errBit = s.errBit := by
  unfold writeStartLow; split <;> rfl
@[simp] theorem writeStartLow_timeoutUs (d : Word) (s : State) : (writeStartLow d s).timeoutUs = s.timeoutUs := by
  unfold writeStartLow; split <;> rfl
@[simp] theorem writeStartLow_rdata (d : Word) (s : State) : (writeStartLow d s).rdata = s.rdata := by
  unfold writeStartLow; split <;> rfl
@[simp] theorem writeStartLow_busErr (d : Word) (s : State) : (writeStartLow d s).busErr = s.busErr := by
  unfold writeStartLow; split <;> rfl
@[simp] theorem writeStartLow_dqS (d : Word) (s : State) : (writeStartLow d s).dqS = s.dqS := by
  unfold writeStartLow; split <;> rfl
@[simp] theorem writeStartLow_sync (d : Word) (s : State) : (writeStartLow d s).sync = s.sync := by
  unfold writeStartLow; split <;> rfl
@[simp] theorem writeStartLow_inbox (d : Word) (s : State) : (writeStartLow d s).inbox = s.inbox := by
  unfold writeStartLow; split <;> rfl
@[simp] theorem writeStartLow_draws (d : Word) (s : State) : (writeStartLow d s).draws = s.draws := by
  unfold writeStartLow; split <;> rfl

end Sys2Proof.Machine
end

