-- ==== Sys2Proof/Laws/Ops.lean ====
section
/-! SUPPORT. Laws/Ops.lean: one spec lemma per shared operation, which says everything the operation can do. -/

namespace Sys2Proof.Machine

/-! ## Outcomes -/

@[simp] theorem andThen_next (s : State) (f : State → Host.Outcome State Fault Refusal) :
    andThen (.next s) f = f s := rfl

@[simp] theorem andThen_fault (r : Fault) (f : State → Host.Outcome State Fault Refusal) :
    andThen (.fault r) f = .fault r := rfl

@[simp] theorem andThen_refused (r : Refusal) (f : State → Host.Outcome State Fault Refusal) :
    andThen (.refused r) f = .refused r := rfl

/-- A sequence answers a next state exactly when both parts do. -/
theorem andThen_eq_next {o : Host.Outcome State Fault Refusal} {f : State → Host.Outcome State Fault Refusal}
    {u : State} : andThen o f = .next u ↔ ∃ t, o = .next t ∧ f t = .next u := by
  cases o <;> simp [andThen]

theorem andThen_assoc (o : Host.Outcome State Fault Refusal) (f g : State → Host.Outcome State Fault Refusal) :
    andThen (andThen o f) g = andThen o fun s => andThen (f s) g := by
  cases o <;> rfl

/-! ## State codes and the line -/

@[simp] theorem ofStCode_stCode (t : TickState) : ofStCode (stCode t) = t := by cases t <;> rfl

@[simp] theorem stCode_ofStCode (c : BitVec 3) : stCode (ofStCode c) = c := by
  revert c
  decide

/-- R21: the block drives the line in START_LOW and RELEASE only. -/
theorem dqOe_iff (s : State) : dqOe s = true ↔ s.st = .startLow ∨ s.st = .release := by
  simp [dqOe]

theorem dqO_iff (s : State) : dqO s = true ↔ s.st = .release := by
  simp [dqO]

theorem busy_iff (s : State) : busy s = true ↔ s.st ≠ .idle := by
  simp [busy]

theorem busy_eq_false_iff (s : State) : busy s = false ↔ s.st = .idle := by
  simp [busy]

/-! ## Operands (R84, R85) -/

theorem timeoutOperand_toNat (d : Word) : (timeoutOperand d).toNat = max 2 (d.toNat % 2 ^ 16) := by
  unfold timeoutOperand
  split <;> (simp_all [BitVec.extractLsb'_toNat]; omega)

theorem startLowOperand_toNat (d : Word) : (startLowOperand d).toNat = max 1 (d.toNat % 2 ^ 8) := by
  unfold startLowOperand
  split
  · simp_all [BitVec.extractLsb'_toNat]
  · simp_all [BitVec.extractLsb'_toNat]
    omega

theorem acceptsStart_iff (d : Word) (s : State) :
    acceptsStart d s = true ↔ d.getLsbD 0 = true ∧ s.st = .idle := by
  simp [acceptsStart, startOperand]

/-! ## Frames -/

theorem frameByte_toNat (f : Frame) (i : Nat) (_h : i < 5) :
    (frameByte f i).toNat = f.toNat / 2 ^ (32 - 8 * i) % 256 := by
  simp [frameByte, BitVec.extractLsb'_toNat, Nat.shiftRight_eq_div_pow]

/-! ## The pulse registers -/

theorem getElem?_pw (pw : Vector (Option Width) 80) {i : Nat} (h : i < 80) : pw[i]? = some pw[i] := by
  simp [h]

/-- An unwritten, a written, or a missing entry. -/
theorem pulse_cases (pw : Vector (Option Width) 80) {i : Nat} (h : isWritten pw i = true) :
    pw[i]? = some (some (pulseAt pw i)) := by
  unfold isWritten at h
  unfold pulseAt
  split at h <;> simp_all

/-- Reading a written entry goes on with its value. -/
theorem readPulse_written {i : Nat} {s : State} {w : Width} (h : s.pw[i]? = some (some w))
    (f : Width → Host.Outcome State Fault Refusal) : readPulse i s f = f w := by
  simp [readPulse, h]

/-- Reading an entry without a value faults (R51). -/
theorem readPulse_unwritten {i : Nat} {s : State} (h : s.pw[i]? = some none)
    (f : Width → Host.Outcome State Fault Refusal) : readPulse i s f = .fault (.unwrittenPulse i) := by
  simp [readPulse, h]

/-- A read that goes on to a next state had a value to go on with. -/
theorem readPulse_eq_next {i : Nat} {s u : State} {f : Width → Host.Outcome State Fault Refusal} :
    readPulse i s f = .next u ↔ ∃ w, s.pw[i]? = some (some w) ∧ f w = .next u := by
  unfold readPulse
  split <;> simp_all

theorem writePulse_of_lt {i : Nat} (h : i < 80) (w : Width) (s : State) :
    writePulse i w s = .next { s with pw := s.pw.set i (some w) h } := by
  simp [writePulse, h]

theorem writePulse_eq_next {i : Nat} {w : Width} {s u : State} :
    writePulse i w s = .next u ↔ ∃ h : i < 80, u = { s with pw := s.pw.set i (some w) h } := by
  unfold writePulse
  split
  · rename_i h
    constructor
    · intro e
      exact ⟨h, by simpa using e.symm⟩
    · rintro ⟨_, rfl⟩
      rfl
  · rename_i h
    simp [h]

theorem isWritten_set {pw : Vector (Option Width) 80} {i j : Nat} (h : i < 80) (w : Width) :
    isWritten (pw.set i (some w) h) j = if i = j then true else isWritten pw j := by
  by_cases e : i = j
  · subst e
    simp [isWritten, h]
  · simp [isWritten, e]

theorem pulseAt_set {pw : Vector (Option Width) 80} {i j : Nat} (h : i < 80) (w : Width) :
    pulseAt (pw.set i (some w) h) j = if i = j then w else pulseAt pw j := by
  by_cases e : i = j
  · subst e
    simp [pulseAt, h]
  · simp [pulseAt, e]

/-! ## The waits -/

theorem phaseLevel_eq (ph : BitVec 7) : phaseLevel ph = decide (ph.toNat % 2 = 0) := by
  rw [phaseLevel, Bool.eq_iff_iff, beq_iff_eq, decide_eq_true_iff]

/-- R165. -/
theorem phaseDone_handshake {s : State} (h : s.ph.toNat ≤ 2) (w : BitVec 18) :
    phaseDone w s = .next { s with ph := s.ph + 1, cnt := 1 } := by
  simp [phaseDone, h]

/-- R167. -/
theorem phaseDone_capture {s : State} {i : Nat} (hi : i < 80) (h : s.ph.toNat = i + 3) (w : BitVec 18) :
    phaseDone w s = .next (advanceCapture 1 { s with pw := s.pw.set i (some (w.setWidth 16)) hi }) := by
  have e : s.ph.toNat - 3 = i := by omega
  rw [phaseDone, if_neg (by omega), e, writePulse_of_lt hi]
  rfl

/-- R166. -/
theorem phaseTimeout_handshake {s : State} (h : s.ph.toNat ≤ 2) :
    phaseTimeout s = .next (completeFail
      (if s.ph.toNat = 0 then .hsResponse else if s.ph.toNat = 1 then .hsPullup else .hsStream) 0 s) := by
  have : s.ph.toNat = 0 ∨ s.ph.toNat = 1 ∨ s.ph.toNat = 2 := by omega
  rcases this with e | e | e <;> simp [phaseTimeout, e]

/-- R168. -/
theorem phaseTimeout_capture {s : State} {i : Nat} (hi : i < 80) (h : s.ph.toNat = i + 3) :
    phaseTimeout s = .next (advanceCapture 0 { s with pw := s.pw.set i (some sentinel) hi }) := by
  rw [phaseTimeout, h]
  simp [writePulse_of_lt hi]

theorem advanceCapture_last {s : State} (h : s.ph.toNat = 82) (c : BitVec 18) :
    advanceCapture c s = { s with st := .decode, k := 0 } := by
  have : s.ph = 82#7 := BitVec.eq_of_toNat_eq (by simpa using h)
  simp [advanceCapture, this]

theorem advanceCapture_inner {s : State} (h : s.ph.toNat < 82) (c : BitVec 18) :
    advanceCapture c s = { s with ph := s.ph + 1, cnt := c } := by
  have : s.ph ≠ 82#7 := fun e => by simp [e] at h
  simp [advanceCapture, this]

theorem ph_succ_toNat {s : State} (h : s.ph.toNat ≤ 82) : (s.ph + 1).toNat = s.ph.toNat + 1 := by
  rw [BitVec.toNat_add]
  simp
  omega

/-! ## Bit reconstruction -/

theorem bitOf_eq (m d : Width) : bitOf m d = decide (m.toNat < d.toNat) := rfl

/-- R193. -/
theorem shiftIn_toNat (sr : Frame) (b : Bool) : (shiftIn sr b).toNat = (2 * sr.toNat + b.toNat) % 2 ^ 40 := by
  have hb : (BitVec.setWidth 40 (BitVec.ofBool b)).toNat = b.toNat % 2 ^ 40 := by cases b <;> rfl
  have hor : sr.toNat <<< 1 ||| b.toNat = 2 * sr.toNat + b.toNat := by
    rw [← Nat.shiftLeft_add_eq_or_of_lt (by cases b <;> decide), Nat.shiftLeft_eq]
    omega
  rw [shiftIn, BitVec.toNat_or, BitVec.toNat_shiftLeft, hb, ← Nat.or_mod_two_pow, hor]

/-- R193: the new bit is bit 0 and every other bit moves up one place. -/
theorem shiftIn_getLsbD (sr : Frame) (b : Bool) (i : Nat) :
    (shiftIn sr b).getLsbD i = (decide (i < 40) && if i = 0 then b else sr.getLsbD (i - 1)) := by
  unfold shiftIn
  rw [BitVec.getLsbD_or, BitVec.getLsbD_shiftLeft, BitVec.getLsbD_setWidth]
  by_cases h0 : i = 0
  · subst h0
    cases b <;> simp
  · by_cases h : i < 40
    · have : (BitVec.ofBool b).getLsbD i = false := by
        apply BitVec.getLsbD_of_ge
        omega
      simp [h0, h, this]
    · simp [h]

end Sys2Proof.Machine
end

