-- ==== Sys2Proof/Laws/Exec.lean ====
section
/-! SUPPORT. Laws/Exec.lean: what a transaction, a tick, a cycle and a step can do, each said once. -/

namespace Sys2Proof.Machine

/-! ## Transactions -/

/-- The instruction is a host bus operation. -/
def isHostOp (i : Instr) : Bool :=
  match i with
  | .tickIdle | .tickStartLow | .tickRelease | .tickWait | .tickDecode | .tickFinish | .tickIllegal _ => false
  | _ => true

theorem isHostOp_decodeBus (t : TxWord) : isHostOp (decodeBus t) = true := by
  unfold decodeBus decodeFields decodeRegister
  split_ifs <;> first | rfl | (split <;> rfl)

/-- What a host bus operation does: it always completes, and changes the answer only, but for an accepted START, a
DONE clear and a configuration write while idle. -/
inductive HostEffect (i : Instr) (s : State) : State → Prop where
  | answer (v : Word) (e : Bool) : HostEffect i s { s with rdata := v, busErr := e }
  | start (d : Word) : i = .wrCtrl d → acceptsStart d s = true → HostEffect i s (respond 0 (startAcquisition s))
  | clear (d : Word) : i = .wrStatus d → doneClrOperand d = true → HostEffect i s (respond 0 (clearDone s))
  | timeout (d : Word) : i = .wrCfgTimeout d → s.st = .idle →
      HostEffect i s (respond 0 { s with timeoutUs := timeoutOperand d })
  | startLow (d : Word) : i = .wrCfgStart d → s.st = .idle →
      HostEffect i s (respond 0 { s with startLowMs := startLowOperand d })

theorem exec_hostOp (i : Instr) (s : State) (hi : isHostOp i = true) :
    ∃ u, exec i s = .next u ∧ HostEffect i s u := by
  cases i with
  | wrCtrl d =>
    refine ⟨_, rfl, ?_⟩
    by_cases h : acceptsStart d s = true
    · rw [if_pos h]
      exact .start d rfl h
    · rw [if_neg h]
      exact .answer 0 false
  | wrStatus d =>
    refine ⟨_, rfl, ?_⟩
    by_cases h : doneClrOperand d = true
    · rw [if_pos h]
      exact .clear d rfl h
    · rw [if_neg h]
      exact .answer 0 false
  | wrCfgTimeout d =>
    refine ⟨_, rfl, ?_⟩
    by_cases h : s.st = .idle
    · rw [writeTimeout, if_pos h]
      exact .timeout d rfl h
    · rw [writeTimeout, if_neg h]
      exact .answer 0 false
  | wrCfgStart d =>
    refine ⟨_, rfl, ?_⟩
    by_cases h : s.st = .idle
    · rw [writeStartLow, if_pos h]
      exact .startLow d rfl h
    · rw [writeStartLow, if_neg h]
      exact .answer 0 false
  | tickIdle => cases hi
  | tickStartLow => cases hi
  | tickRelease => cases hi
  | tickWait => cases hi
  | tickDecode => cases hi
  | tickFinish => cases hi
  | tickIllegal low => cases hi
  | _ => exact ⟨_, rfl, .answer _ _⟩

/-- A transaction always completes, with one of the effects of `HostEffect`. -/
theorem runTransaction_spec (t : TxWord) (s : State) :
    ∃ u, runTransaction t s = .next u ∧ HostEffect (decodeBus t) s u :=
  exec_hostOp _ s (isHostOp_decodeBus t)

theorem runTransaction_effect {t : TxWord} {s u : State} (h : runTransaction t s = .next u) :
    HostEffect (decodeBus t) s u := by
  obtain ⟨u', h', he⟩ := runTransaction_spec t s
  rw [h] at h'
  cases h'
  exact he

/-- A transaction while an acquisition runs changes its answer only, but for a DONE clear (R266, R267). -/
theorem HostEffect.busy {i : Instr} {s u : State} (h : HostEffect i s u) (hb : s.st ≠ .idle) :
    u = { s with done := u.done, rdata := u.rdata, busErr := u.busErr } ∧
      (u.done = s.done ∨ u.done = false ∧ ∃ d, i = .wrStatus d ∧ doneClrOperand d = true) := by
  cases h with
  | answer v e => exact ⟨rfl, .inl rfl⟩
  | start d hi ha => exact absurd ((acceptsStart_iff d s).1 ha).2 hb
  | clear d hi hd => exact ⟨rfl, .inr ⟨rfl, d, hi, hd⟩⟩
  | timeout d hi h0 => exact absurd h0 hb
  | startLow d hi h0 => exact absurd h0 hb

/-! ## Ticks -/

@[simp] theorem sampleLine_of_not_wait {l : Bool} {s : State} (h : s.st ≠ .wait) : sampleLine l s = s := by
  simp [sampleLine, h]

@[simp] theorem sampleLine_of_wait {l : Bool} {s : State} (h : s.st = .wait) :
    sampleLine l s = { s with dqS := l } := by
  simp [sampleLine, h]

theorem runTick_idle {l : Bool} {s : State} (h : s.st = .idle) : runTick l s = .next s := by
  simp [runTick, h, stCode, decodeTick, exec, execTickIdle]

theorem runTick_startLow {l : Bool} {s : State} (h : s.st = .startLow) :
    runTick l s = execTickStartLow s := by
  simp [runTick, h, stCode, decodeTick, exec]

theorem runTick_release {l : Bool} {s : State} (h : s.st = .release) :
    runTick l s = .next { s with st := .wait, ph := 0, cnt := 0 } := by
  simp [runTick, h, stCode, decodeTick, exec, execTickRelease]

theorem runTick_wait {l : Bool} {s : State} (h : s.st = .wait) :
    runTick l s = execTickWait { s with dqS := l } := by
  simp [runTick, h, stCode, decodeTick, exec]

theorem runTick_decode {l : Bool} {s : State} (h : s.st = .decode) : runTick l s = execTickDecode s := by
  simp [runTick, h, stCode, decodeTick, exec]

theorem runTick_finish {l : Bool} {s : State} (h : s.st = .finish) : runTick l s = execTickFinish s := by
  simp [runTick, h, stCode, decodeTick, exec]

theorem runTick_illegal {l : Bool} {s : State} (h : s.st = .illegal6 ∨ s.st = .illegal7) :
    runTick l s = .next { s with st := .idle } := by
  rcases h with h | h <;> simp [runTick, h, stCode, decodeTick, exec, execTickIllegal]

/-! ## Runs -/

@[simp] theorem runEvents_nil (s : State) : runEvents [] s = .next s := rfl

@[simp] theorem runEvents_cons (e : Event) (es : List Event) (s : State) :
    runEvents (e :: es) s = andThen (perform e s) (runEvents es) := rfl

theorem runEvents_append (es fs : List Event) (s : State) :
    runEvents (es ++ fs) s = andThen (runEvents es s) (runEvents fs) := by
  induction es generalizing s with
  | nil => rfl
  | cons e es ih =>
    simp only [List.cons_append, runEvents_cons, andThen_assoc]
    congr 1
    funext t
    exact ih t

@[simp] theorem runTicks_nil (s : State) : runTicks [] s = .next s := rfl

@[simp] theorem runTicks_cons (l : Bool) (ls : List Bool) (s : State) :
    runTicks (l :: ls) s = andThen (runTick l s) (runTicks ls) := rfl

theorem runTicks_append (ls ms : List Bool) (s : State) :
    runTicks (ls ++ ms) s = andThen (runTicks ls s) (runTicks ms) := by
  simp only [runTicks, List.map_append, runEvents_append]
  rfl

@[simp] theorem runCycles_nil (s : State) : runCycles [] s = .next s := rfl

@[simp] theorem runCycles_cons (p : Pins) (ps : List Pins) (s : State) :
    runCycles (p :: ps) s = andThen (runCycle p s) (runCycles ps) := rfl

theorem runCycles_append (ps qs : List Pins) (s : State) :
    runCycles (ps ++ qs) s = andThen (runCycles ps s) (runCycles qs) := by
  simp only [runCycles, List.map_append, runEvents_append]
  rfl

/-! ## The clock edge and the host's run -/

/-- PRESC at its last value: a tick, and PRESC starts again (R140). -/
theorem prescale_last {l : Bool} {s : State} (h : s.presc = Config.clkPerUs - 1) :
    prescale l s = runTick l { s with presc := 0 } := by
  simp [prescale, h]

/-- PRESC below its last value: no tick (R140). -/
theorem prescale_inner {l : Bool} {s : State} (h : s.presc ≠ Config.clkPerUs - 1) :
    prescale l s = .next { s with presc := s.presc + 1 } := by
  simp [prescale, h]

/-- The edge of a cycle that accepted no START (R140). -/
theorem clockEdge_idle (dq : Bool) (s : State) :
    clockEdge dq false s = prescale (synchronised dq s) (clockSync dq s) := rfl

/-- The edge of the cycle that accepted a START has no tick (R10). -/
theorem clockEdge_start (dq : Bool) (s : State) : clockEdge dq true s = .next (clockSync dq s) := rfl

/-- One step of the host's run. -/
theorem run_succ {M : Host.Core} {n : Nat} {s t : M.State} (h : M.step s = .next t) :
    Host.Core.run M (n + 1) s = Host.Core.run M n t := by
  simp [Host.Core.run, h]

end Sys2Proof.Machine
end

