-- ==== Sys2Proof/Laws/PerInstr.lean ====
section
/-! SUPPORT. Laws/PerInstr.lean: the per-instruction family RoundTrip: decoding the word of a well-formed
instruction gives the instruction back. -/

namespace Sys2Proof.Laws.RoundTrip

/-- What the family says of one instruction. -/
def Statement (i : Instr) : Prop := wellFormed i = true → decode (encode i) = i

/-- The reading of an aligned access at a fixed register offset. -/
theorem decode_encodeAccess (w : Bool) (off : BitVec 6) (d : Word) :
    decode (encodeAccess w off d) = decodeFields w 0b10#2 off d := by
  simp [encodeAccess, decode]

theorem rdCtrl (d : Word) : Statement (.rdCtrl d) := fun _ => decode_encodeAccess _ _ d
theorem wrCtrl (d : Word) : Statement (.wrCtrl d) := fun _ => decode_encodeAccess _ _ d
theorem rdStatus (d : Word) : Statement (.rdStatus d) := fun _ => decode_encodeAccess _ _ d
theorem wrStatus (d : Word) : Statement (.wrStatus d) := fun _ => decode_encodeAccess _ _ d
theorem rdCfgTimeout (d : Word) : Statement (.rdCfgTimeout d) := fun _ => decode_encodeAccess _ _ d
theorem wrCfgTimeout (d : Word) : Statement (.wrCfgTimeout d) := fun _ => decode_encodeAccess _ _ d
theorem rdCfgStart (d : Word) : Statement (.rdCfgStart d) := fun _ => decode_encodeAccess _ _ d
theorem wrCfgStart (d : Word) : Statement (.wrCfgStart d) := fun _ => decode_encodeAccess _ _ d
theorem rdData0 (d : Word) : Statement (.rdData0 d) := fun _ => decode_encodeAccess _ _ d
theorem wrData0 (d : Word) : Statement (.wrData0 d) := fun _ => decode_encodeAccess _ _ d
theorem rdData1 (d : Word) : Statement (.rdData1 d) := fun _ => decode_encodeAccess _ _ d
theorem wrData1 (d : Word) : Statement (.wrData1 d) := fun _ => decode_encodeAccess _ _ d
theorem rdHumidity (d : Word) : Statement (.rdHumidity d) := fun _ => decode_encodeAccess _ _ d
theorem wrHumidity (d : Word) : Statement (.wrHumidity d) := fun _ => decode_encodeAccess _ _ d
theorem rdTemperature (d : Word) : Statement (.rdTemperature d) := fun _ => decode_encodeAccess _ _ d
theorem wrTemperature (d : Word) : Statement (.wrTemperature d) := fun _ => decode_encodeAccess _ _ d

theorem rdReserved (off : BitVec 6) (d : Word) : Statement (.rdReserved off d) := by
  intro h
  simp_all [wellFormed, isReservedOffset, encode, decode_encodeAccess, decodeFields]

theorem wrReserved (off : BitVec 6) (d : Word) : Statement (.wrReserved off d) := by
  intro h
  simp_all [wellFormed, isReservedOffset, encode, decode_encodeAccess, decodeFields]

theorem busErrSubword (w : Bool) (sz : BitVec 2) (off : BitVec 6) (d : Word) :
    Statement (.busErrSubword w sz off d) := by
  intro h
  simp_all [wellFormed, encode, decode, decodeFields]

theorem busErrSz11 (w : Bool) (off : BitVec 6) (d : Word) : Statement (.busErrSz11 w off d) := by
  intro _
  simp [encode, decode, decodeFields]

theorem busErrOffOdd (w : Bool) (off : BitVec 6) (d : Word) : Statement (.busErrOffOdd w off d) := by
  intro h
  simp_all [wellFormed, encode, decode_encodeAccess, decodeFields]

theorem busErrOffHalf (w : Bool) (off : BitVec 6) (d : Word) : Statement (.busErrOffHalf w off d) := by
  intro h
  simp_all [wellFormed, encode, decode_encodeAccess, decodeFields]

theorem tickIdle : Statement .tickIdle := fun _ => rfl
theorem tickStartLow : Statement .tickStartLow := fun _ => rfl
theorem tickRelease : Statement .tickRelease := fun _ => rfl
theorem tickWait : Statement .tickWait := fun _ => rfl
theorem tickDecode : Statement .tickDecode := fun _ => rfl
theorem tickFinish : Statement .tickFinish := fun _ => rfl

theorem tickIllegal (low : Bool) : Statement (.tickIllegal low) := by
  intro _
  cases low <;> rfl

end Sys2Proof.Laws.RoundTrip
end

