-- ==== Sys2Proof/Laws/Ticks.lean ====
section
/-! SUPPORT. Laws/Ticks.lean: everything one tick can do, said once; what no tick touches; runs of ticks inside one
state of the tick engine; a cycle while an acquisition runs. -/

namespace Sys2Proof.Machine

/-- Everything a tick that samples `l` can do. -/
inductive TickEffect (l : Bool) (s : State) : State → Prop where
  | idle : s.st = .idle → TickEffect l s s
  | lowCount : s.st = .startLow → s.cnt.toNat + 1 ≠ s.startLowMs.toNat * 1000 →
      TickEffect l s { s with cnt := s.cnt + 1 }
  | lowEnd : s.st = .startLow → s.cnt.toNat + 1 = s.startLowMs.toNat * 1000 →
      TickEffect l s { s with st := .release, cnt := 0 }
  | release : s.st = .release → TickEffect l s { s with st := .wait, ph := 0, cnt := 0 }
  | waitCount : s.st = .wait → l = phaseLevel s.ph → s.cnt.toNat + 1 < s.timeoutUs.toNat →
      TickEffect l s { s with dqS := l, cnt := s.cnt + 1 }
  | handshake : s.st = .wait → l ≠ phaseLevel s.ph → s.ph.toNat ≤ 2 →
      TickEffect l s { s with dqS := l, ph := s.ph + 1, cnt := 1 }
  | handshakeFail : s.st = .wait → l = phaseLevel s.ph → s.timeoutUs.toNat ≤ s.cnt.toNat + 1 → s.ph.toNat ≤ 2 →
      TickEffect l s (completeFail
        (if s.ph.toNat = 0 then .hsResponse else if s.ph.toNat = 1 then .hsPullup else .hsStream) 0
        { s with dqS := l })
  | recordWidth (i : Nat) (hi : i < 80) : s.st = .wait → l ≠ phaseLevel s.ph → s.ph.toNat = i + 3 →
      TickEffect l s (advanceCapture 1 { s with dqS := l, pw := s.pw.set i (some (s.cnt.setWidth 16)) hi })
  | recordSentinel (i : Nat) (hi : i < 80) : s.st = .wait → l = phaseLevel s.ph →
      s.timeoutUs.toNat ≤ s.cnt.toNat + 1 → s.ph.toNat = i + 3 →
      TickEffect l s (advanceCapture 0 { s with dqS := l, pw := s.pw.set i (some sentinel) hi })
  | markerFail : s.st = .decode → s.pw[2 * s.k.toNat]? = some (some sentinel) →
      TickEffect l s (completeFail .bitMarker s.k s)
  | dataFail (m : Width) : s.st = .decode → s.pw[2 * s.k.toNat]? = some (some m) → m ≠ sentinel →
      s.pw[2 * s.k.toNat + 1]? = some (some sentinel) → TickEffect l s (completeFail .bitData s.k s)
  | bitNext (m d : Width) : s.st = .decode → s.pw[2 * s.k.toNat]? = some (some m) → m ≠ sentinel →
      s.pw[2 * s.k.toNat + 1]? = some (some d) → d ≠ sentinel → s.k ≠ 39#6 →
      TickEffect l s { s with sr := shiftIn s.sr (bitOf m d), k := s.k + 1 }
  | bitLast (m d : Width) : s.st = .decode → s.pw[2 * s.k.toNat]? = some (some m) → m ≠ sentinel →
      s.pw[2 * s.k.toNat + 1]? = some (some d) → d ≠ sentinel → s.k = 39#6 →
      TickEffect l s { s with sr := shiftIn s.sr (bitOf m d), st := .finish }
  | good : s.st = .finish → checksumGood s.sr = true → TickEffect l s (completeOk s)
  | bad : s.st = .finish → checksumGood s.sr = false → TickEffect l s (completeFail .checksum 0 s)
  | illegal : s.st = .illegal6 ∨ s.st = .illegal7 → TickEffect l s { s with st := .idle }

/-- The inversion of a WAIT tick. -/
theorem execTickWait_effect {l : Bool} {s u : State} (hw : s.st = .wait)
    (h : execTickWait { s with dqS := l } = .next u) : TickEffect l s u := by
  unfold execTickWait at h
  split at h
  · rename_i hl
    split at h
    · rename_i ht
      by_cases hp : s.ph.toNat ≤ 2
      · rw [phaseTimeout_handshake (s := { s with dqS := l }) hp] at h
        cases h
        exact .handshakeFail hw hl ht hp
      · have e : s.ph.toNat = (s.ph.toNat - 3) + 3 := by omega
        unfold phaseTimeout at h
        dsimp only at h
        rw [e] at h
        rw [andThen_eq_next] at h
        obtain ⟨t, h1, h2⟩ := h
        obtain ⟨hi, rfl⟩ := writePulse_eq_next.1 h1
        cases h2
        exact .recordSentinel _ hi hw hl ht e
    · rename_i ht
      cases h
      exact .waitCount hw hl (Nat.lt_of_not_le ht)
  · rename_i hl
    by_cases hp : s.ph.toNat ≤ 2
    · rw [phaseDone_handshake (s := { s with dqS := l }) hp] at h
      cases h
      exact .handshake hw hl hp
    · rw [phaseDone, if_neg hp, andThen_eq_next] at h
      obtain ⟨t, h1, h2⟩ := h
      obtain ⟨hi, rfl⟩ := writePulse_eq_next.1 h1
      cases h2
      exact .recordWidth (s.ph.toNat - 3) hi hw hl (by omega)

/-- The inversion of a DECODE tick. -/
theorem execTickDecode_effect {l : Bool} {s u : State} (hd : s.st = .decode)
    (h : execTickDecode s = .next u) : TickEffect l s u := by
  unfold execTickDecode at h
  rw [readPulse_eq_next] at h
  obtain ⟨m, h1, h⟩ := h
  rw [readPulse_eq_next] at h
  obtain ⟨d, h2, h⟩ := h
  split_ifs at h with hm hs hk
  · cases h
    exact .markerFail hd (by rw [h1, hm])
  · cases h
    exact .dataFail m hd h1 hm (by rw [h2, hs])
  · cases h
    exact .bitLast m d hd h1 hm h2 hs hk
  · cases h
    exact .bitNext m d hd h1 hm h2 hs hk

/-- A tick that answers a next state has one of the effects of `TickEffect`. -/
theorem runTick_effect {l : Bool} {s u : State} (h : runTick l s = .next u) : TickEffect l s u := by
  cases hst : s.st with
  | idle =>
    rw [runTick_idle hst] at h
    cases h
    exact .idle hst
  | startLow =>
    rw [runTick_startLow hst, execTickStartLow] at h
    split at h
    · cases h
      exact .lowEnd hst (by assumption)
    · cases h
      exact .lowCount hst (by assumption)
  | release =>
    rw [runTick_release hst] at h
    cases h
    exact .release hst
  | wait => exact execTickWait_effect hst (by rw [← runTick_wait hst, h])
  | decode => exact execTickDecode_effect hst (by rw [← runTick_decode hst, h])
  | finish =>
    rw [runTick_finish hst, execTickFinish] at h
    split at h
    · cases h
      exact .good hst (by assumption)
    · cases h
      exact .bad hst (by simp_all)
  | illegal6 =>
    rw [runTick_illegal (.inl hst)] at h
    cases h
    exact .illegal (.inl hst)
  | illegal7 =>
    rw [runTick_illegal (.inr hst)] at h
    cases h
    exact .illegal (.inr hst)

/-- The end of a capture phase leaves every field but `st`, `k`, `ph` and `cnt`. -/
theorem advanceCapture_frame (c : BitVec 18) (s : State) :
    advanceCapture c s = { s with
      st := (advanceCapture c s).st, k := (advanceCapture c s).k, ph := (advanceCapture c s).ph,
      cnt := (advanceCapture c s).cnt } := by
  unfold advanceCapture
  split <;> rfl

/-- No tick touches the configuration, the prescaler, the synchroniser, the last answer or the queue. -/
theorem TickEffect.frame {l : Bool} {s u : State} (h : TickEffect l s u) :
    u.timeoutUs = s.timeoutUs ∧ u.startLowMs = s.startLowMs ∧ u.presc = s.presc ∧ u.sync = s.sync ∧
      u.rdata = s.rdata ∧ u.busErr = s.busErr ∧ u.inbox = s.inbox ∧ u.draws = s.draws := by
  cases h with
  | recordWidth i hi _ _ _ =>
    rw [advanceCapture_frame]
    exact ⟨rfl, rfl, rfl, rfl, rfl, rfl, rfl, rfl⟩
  | recordSentinel i hi _ _ _ _ =>
    rw [advanceCapture_frame]
    exact ⟨rfl, rfl, rfl, rfl, rfl, rfl, rfl, rfl⟩
  | _ => exact ⟨rfl, rfl, rfl, rfl, rfl, rfl, rfl, rfl⟩

/-! ## Runs of ticks -/

/-- The tick counter counts without a wrap below its bound (R41). -/
theorem cnt_succ_toNat {c : BitVec 18} (h : c.toNat + 1 < 2 ^ 18) : (c + 1).toNat = c.toNat + 1 := by
  rw [BitVec.toNat_add]
  simp
  omega

/-- A nonempty list of levels has a last one. -/
theorem exists_append_singleton {n : Nat} {ls : List Bool} (h : ls.length = n + 1) :
    ∃ ms l, ls = ms ++ [l] ∧ ms.length = n :=
  ⟨ls.dropLast, ls.getLast (by rintro rfl; simp at h), (List.dropLast_concat_getLast _).symm, by simp [h]⟩

/-- Samples at the phase's level, within its budget, only count (R162). -/
theorem runTicks_waitCount (n : Nat) (s : State) (h : s.st = .wait) (hc : s.cnt.toNat + n < s.timeoutUs.toNat) :
    ∃ c : BitVec 18, c.toNat = s.cnt.toNat + n ∧
      ∃ q, runTicks (List.replicate n (phaseLevel s.ph)) s = .next { s with cnt := c, dqS := q } := by
  induction n generalizing s with
  | zero => exact ⟨s.cnt, rfl, s.dqS, rfl⟩
  | succ n ih =>
    have hT := s.timeoutUs.isLt
    have e := cnt_succ_toNat (c := s.cnt) (by omega)
    have hlt : (s.cnt + 1).toNat + n < s.timeoutUs.toNat := by omega
    have hno : ¬ s.timeoutUs.toNat ≤ s.cnt.toNat + 1 := by omega
    rw [List.replicate_succ, runTicks_cons, runTick_wait h, execTickWait, if_pos rfl, if_neg hno, andThen_next]
    obtain ⟨c, h1, q, h2⟩ := ih { s with dqS := phaseLevel s.ph, cnt := s.cnt + 1 } h hlt
    exact ⟨c, by rw [h1, e]; omega, q, h2⟩

/-- A decode tick over written pulse registers (R191, R193). -/
theorem runTick_decode_written {s : State} (l : Bool) (h : s.st = .decode)
    (w1 : isWritten s.pw (2 * s.k.toNat) = true) (w2 : isWritten s.pw (2 * s.k.toNat + 1) = true) :
    runTick l s =
      (let m := pulseAt s.pw (2 * s.k.toNat)
       let d := pulseAt s.pw (2 * s.k.toNat + 1)
       if m = sentinel then .next (completeFail .bitMarker s.k s)
       else if d = sentinel then .next (completeFail .bitData s.k s)
       else if s.k = 39#6 then .next { s with sr := shiftIn s.sr (bitOf m d), st := .finish }
       else .next { s with sr := shiftIn s.sr (bitOf m d), k := s.k + 1 }) := by
  rw [runTick_decode h, execTickDecode, readPulse_written (pulse_cases _ w1),
    readPulse_written (pulse_cases _ w2)]

/-! ## A cycle while an acquisition runs -/

/-- While busy, a cycle without reset is its clock edge, from a state that differs in DONE and the answer only
(R266, R267). -/
theorem runCycle_busy {p : Pins} {s : State} (hr : p.rstN = true) (hb : s.st ≠ .idle) :
    ∃ dn v e dq, runCycle p s = clockEdge dq false { s with done := dn, rdata := v, busErr := e } := by
  rw [runCycle, if_neg (by simp [hr])]
  split
  · exact ⟨s.done, s.rdata, s.busErr, _, rfl⟩
  · rename_i t _
    obtain ⟨u, hu, he⟩ := runTransaction_spec t s
    have e1 := (he.busy hb).1
    have e2 : isAcceptedStart t s = false := by
      unfold isAcceptedStart
      split
      · simp [acceptsStart, hb]
      · rfl
    rw [hu, andThen_next, e2, e1]
    exact ⟨_, _, _, _, rfl⟩

end Sys2Proof.Machine
end

