-- ==== Sys2Proof/Tests/Slice0.lean ====
section
/-! SUPPORT. Tests/Slice0.lean: the model's own tests, with expected values from 95_test_vectors.md and from the
encodings of R80, R83 and R90, and for each obligation with hypotheses a witness that meets them. -/

namespace Sys2Proof.Tests

open Sys2Proof Sys2Proof.Machine Sys2Proof.Statements

/-! ## Helpers -/

/-- The outcome is a next state with the property. -/
def nextIs (o : Host.Outcome State Fault Refusal) (p : State → Bool) : Bool :=
  match o with
  | .next s => p s
  | .fault _ => false
  | .refused _ => false

/-- The outcome is the fault. -/
def faultIs (o : Host.Outcome State Fault Refusal) (f : Fault) : Bool :=
  match o with
  | .next _ => false
  | .fault r => r == f
  | .refused _ => false

/-- The answer of a transaction. -/
def answers (o : Host.Outcome State Fault Refusal) (rdata : Word) (busErr : Bool) : Bool :=
  nextIs o fun s => s.rdata == rdata && s.busErr == busErr

/-- The frame of example E3. -/
def frameE3 : Frame := 0x320018054F#40

/-- After the success of example E3: STATUS = 0x0E. -/
def afterE3 : State := { State.reset with done := true, ok := true, valid := true, lf := frameE3 }

/-- Just after an accepted START, with E3's frame as the last good one. -/
def started : State := { State.reset with st := .startLow, valid := true, lf := frameE3 }

/-- RELEASE of the same acquisition. -/
def releasing : State := { started with st := .release }

/-- A WAIT state of the same acquisition, in phase `ph` with count `cnt`, that has sampled `level`. -/
def waitAt (ph : BitVec 7) (cnt : BitVec 18) (level : Bool) : State :=
  { started with st := .wait, ph := ph, cnt := cnt, dqS := level }

/-- The pulse registers of W_ref over a frame: markers of 50, data pulses of 27 or 70 (R174). -/
def pulsesOf (f : Frame) : Vector (Option Width) 80 :=
  Vector.ofFn fun i =>
    if i.val % 2 = 0 then some 50#16
    else if f.getLsbD (39 - i.val / 2) then some 70#16 else some 27#16

/-- DECODE at bit `k` with shift register `sr`, over the pulses of E3's frame. -/
def decodeAt (k : BitVec 6) (sr : Frame) : State :=
  { started with st := .decode, ph := 82, k := k, sr := sr, pw := pulsesOf frameE3 }

/-- FINISH with the frame `f` in SR. -/
def finishWith (f : Frame) : State :=
  { started with st := .finish, ph := 82, k := 39, sr := f, pw := pulsesOf f }

/-! ## Well-formedness: for each check of `wellFormed`, an ill-formed term that it refuses -/

theorem test_illFormed_rdReserved : wellFormed (.rdReserved 0x22#6 0#32) = false := by decide
theorem test_illFormed_rdReserved_low : wellFormed (.rdReserved 0x1C#6 0#32) = false := by decide
theorem test_illFormed_wrReserved : wellFormed (.wrReserved 0x21#6 1#32) = false := by decide
theorem test_illFormed_wrReserved_low : wellFormed (.wrReserved 0x04#6 1#32) = false := by decide
theorem test_illFormed_busErrSubword : wellFormed (.busErrSubword true 0b10#2 0#6 1#32) = false := by decide
theorem test_illFormed_busErrOffOdd : wellFormed (.busErrOffOdd false 0x06#6 0#32) = false := by decide
theorem test_illFormed_busErrOffHalf : wellFormed (.busErrOffHalf false 0x08#6 0#32) = false := by decide
theorem test_illFormed_busErrOffHalf_odd : wellFormed (.busErrOffHalf false 0x07#6 0#32) = false := by decide

/-! ## Decoding: each row's word, written out as W, SZ, OFF, WDATA (R80, R83) or as the state code (R90) -/

theorem test_decode_rdCtrl :
    decodeBus (0b0#1 ++ 0b10#2 ++ 0b000000#6 ++ 0x00000000#32) = .rdCtrl 0#32 := by decide
theorem test_decode_wrCtrl :
    decodeBus (0b1#1 ++ 0b10#2 ++ 0b000000#6 ++ 0x00000001#32) = .wrCtrl 1#32 := by decide
theorem test_decode_rdStatus :
    decodeBus (0b0#1 ++ 0b10#2 ++ 0b000100#6 ++ 0x00000000#32) = .rdStatus 0#32 := by decide
theorem test_decode_wrStatus :
    decodeBus (0b1#1 ++ 0b10#2 ++ 0b000100#6 ++ 0x00000002#32) = .wrStatus 2#32 := by decide
theorem test_decode_rdCfgTimeout :
    decodeBus (0b0#1 ++ 0b10#2 ++ 0b001000#6 ++ 0x00000000#32) = .rdCfgTimeout 0#32 := by decide
theorem test_decode_wrCfgTimeout :
    decodeBus (0b1#1 ++ 0b10#2 ++ 0b001000#6 ++ 0x000000C8#32) = .wrCfgTimeout 0xC8#32 := by decide
theorem test_decode_rdCfgStart :
    decodeBus (0b0#1 ++ 0b10#2 ++ 0b001100#6 ++ 0x00000000#32) = .rdCfgStart 0#32 := by decide
theorem test_decode_wrCfgStart :
    decodeBus (0b1#1 ++ 0b10#2 ++ 0b001100#6 ++ 0x00000014#32) = .wrCfgStart 0x14#32 := by decide
theorem test_decode_rdData0 :
    decodeBus (0b0#1 ++ 0b10#2 ++ 0b010000#6 ++ 0x00000000#32) = .rdData0 0#32 := by decide
theorem test_decode_wrData0 :
    decodeBus (0b1#1 ++ 0b10#2 ++ 0b010000#6 ++ 0x12345678#32) = .wrData0 0x12345678#32 := by decide
theorem test_decode_rdData1 :
    decodeBus (0b0#1 ++ 0b10#2 ++ 0b010100#6 ++ 0x00000000#32) = .rdData1 0#32 := by decide
theorem test_decode_wrData1 :
    decodeBus (0b1#1 ++ 0b10#2 ++ 0b010100#6 ++ 0x00000001#32) = .wrData1 1#32 := by decide
theorem test_decode_rdHumidity :
    decodeBus (0b0#1 ++ 0b10#2 ++ 0b011000#6 ++ 0x00000000#32) = .rdHumidity 0#32 := by decide
theorem test_decode_wrHumidity :
    decodeBus (0b1#1 ++ 0b10#2 ++ 0b011000#6 ++ 0x00000001#32) = .wrHumidity 1#32 := by decide
theorem test_decode_rdTemperature :
    decodeBus (0b0#1 ++ 0b10#2 ++ 0b011100#6 ++ 0x00000000#32) = .rdTemperature 0#32 := by decide
theorem test_decode_wrTemperature :
    decodeBus (0b1#1 ++ 0b10#2 ++ 0b011100#6 ++ 0x00000001#32) = .wrTemperature 1#32 := by decide
theorem test_decode_rdReserved :
    decodeBus (0b0#1 ++ 0b10#2 ++ 0b111100#6 ++ 0x00000000#32) = .rdReserved 0x3C#6 0#32 := by decide
theorem test_decode_wrReserved :
    decodeBus (0b1#1 ++ 0b10#2 ++ 0b100000#6 ++ 0x00000001#32) = .wrReserved 0x20#6 1#32 := by decide
theorem test_decode_busErrSubword :
    decodeBus (0b1#1 ++ 0b00#2 ++ 0b000000#6 ++ 0x00000001#32) = .busErrSubword true 0b00#2 0#6 1#32 := by decide
theorem test_decode_busErrSz11 :
    decodeBus (0b0#1 ++ 0b11#2 ++ 0b010000#6 ++ 0x00000000#32) = .busErrSz11 false 0x10#6 0#32 := by decide
theorem test_decode_busErrOffOdd :
    decodeBus (0b0#1 ++ 0b10#2 ++ 0b000101#6 ++ 0x00000000#32) = .busErrOffOdd false 0x05#6 0#32 := by decide
theorem test_decode_busErrOffHalf :
    decodeBus (0b1#1 ++ 0b10#2 ++ 0b000110#6 ++ 0x00000001#32) = .busErrOffHalf true 0x06#6 1#32 := by decide
theorem test_decode_tickIdle : decodeTick 0b000#3 = .tickIdle := by decide
theorem test_decode_tickStartLow : decodeTick 0b001#3 = .tickStartLow := by decide
theorem test_decode_tickRelease : decodeTick 0b010#3 = .tickRelease := by decide
theorem test_decode_tickWait : decodeTick 0b011#3 = .tickWait := by decide
theorem test_decode_tickDecode : decodeTick 0b100#3 = .tickDecode := by decide
theorem test_decode_tickFinish : decodeTick 0b101#3 = .tickFinish := by decide
theorem test_decode_tickIllegal :
    decodeTick 0b110#3 = .tickIllegal false ∧ decodeTick 0b111#3 = .tickIllegal true := by decide

/-- R82's decode order: a sub-word access at an odd offset is refused for its size. -/
theorem test_decode_order :
    decodeBus (0b0#1 ++ 0b01#2 ++ 0b000101#6 ++ 0x00000000#32) = .busErrSubword false 0b01#2 0x05#6 0#32 := by decide

/-- R89: the transaction words of the pseudo-instructions, as 95_test_vectors.md's programs list them. -/
theorem test_asm_words :
    asmAcquire = 0x18000000001#41 ∧ asmClrDone = 0x18400000002#41 ∧ asmSetTmo 200#32 = 0x188000000C8#41 ∧
      asmSetStart 1#32 = 0x18C00000001#41 ∧ asmRd .temperature = 0x09C00000000#41 := by decide

/-! ## The table's numbering and the fetch -/

theorem test_decodeTableWord_bus : decodeTableWord 48 0x18000000001 = some (.wrCtrl 1#32) := by decide
theorem test_decodeTableWord_tick : decodeTableWord 8 0b011 = some .tickWait := by decide
theorem test_decodeTableWord_reject : decodeTableWord 8 8 = none ∧ decodeTableWord 48 (2 ^ 41) = none := by decide
theorem test_fetch_bus :
    nextIs (step (State.reset.withFetchWord 48 0x18000000001)) (fun s => s.st == .startLow) = true := by decide
theorem test_fetch_tick :
    nextIs (step (State.reset.withFetchWord 8 0b010)) (fun s => s.st == .wait && s.inbox == []) = true := by decide

/-! ## Host bus operations (95_test_vectors.md 2.1 to 2.3) -/

/-- B1. -/
theorem test_rdCtrl : answers (runTransaction 0x08000000000#41 afterE3) 0#32 false = true := by decide
/-- B3. -/
theorem test_wrCtrl_start :
    nextIs (runTransaction 0x180FFFFFFFF#41 afterE3) (fun s => s.st == .startLow && statusWord s == 0x9#32) = true := by
  decide
/-- B5. -/
theorem test_wrCtrl_busy :
    nextIs (runTransaction 0x18000000001#41 started) (fun s => s == { started with rdata := 0, busErr := false }) =
      true := by decide
/-- B7. -/
theorem test_rdStatus : answers (runTransaction 0x08400000000#41 afterE3) 0xE#32 false = true := by decide
/-- B8. -/
theorem test_wrStatus_clears :
    nextIs (runTransaction 0x18400000002#41 afterE3) (fun s => statusWord s == 0xC#32) = true := by decide
/-- B9. -/
theorem test_wrStatus_keeps :
    nextIs (runTransaction 0x184FFFFFFFD#41 afterE3) (fun s => statusWord s == 0xE#32) = true := by decide
/-- B11. -/
theorem test_rdCfgTimeout : answers (runTransaction 0x08800000000#41 State.reset) 0x3E8#32 false = true := by decide
/-- 2.2: WDATA[15:0] = 0 is clamped to 2. -/
theorem test_wrCfgTimeout_clamp :
    nextIs (runTransaction 0x18800010000#41 State.reset) (fun s => s.timeoutUs == 2#16) = true := by decide
/-- B13. -/
theorem test_wrCfgTimeout_busy :
    nextIs (runTransaction 0x18800000005#41 started) (fun s => s.timeoutUs == 1000#16) = true := by decide
/-- B14. -/
theorem test_rdCfgStart : answers (runTransaction 0x08C00000000#41 State.reset) 0x12#32 false = true := by decide
/-- B15. -/
theorem test_wrCfgStart :
    nextIs (runTransaction 0x18C00000014#41 State.reset) (fun s => s.startLowMs == 20#8) = true := by decide
/-- 2.2: WDATA[7:0] = 0 is clamped to 1. -/
theorem test_wrCfgStart_clamp :
    nextIs (runTransaction 0x18C00000100#41 State.reset) (fun s => s.startLowMs == 1#8) = true := by decide
/-- B17. -/
theorem test_rdData0 : answers (runTransaction 0x09000000000#41 afterE3) 0x05180032#32 false = true := by decide
/-- B18. -/
theorem test_wrData0 :
    nextIs (runTransaction 0x19012345678#41 afterE3) (fun s => s.lf == frameE3 && !s.busErr) = true := by decide
/-- B19. -/
theorem test_rdData1 : answers (runTransaction 0x09400000000#41 afterE3) 0x4F#32 false = true := by decide
/-- R113. -/
theorem test_wrData1 :
    nextIs (runTransaction 0x19400000001#41 afterE3) (fun s => s.lf == frameE3 && !s.busErr) = true := by decide
/-- B20. -/
theorem test_rdHumidity : answers (runTransaction 0x09800000000#41 afterE3) 0x1F4#32 false = true := by decide
/-- P4: 40.5 %. -/
theorem test_rdHumidity_p4 :
    answers (runTransaction 0x09800000000#41 { afterE3 with lf := 0x28050285B4#40 }) 0x195#32 false = true := by decide
/-- R115. -/
theorem test_wrHumidity :
    nextIs (runTransaction 0x19800000001#41 afterE3) (fun s => s.lf == frameE3 && !s.busErr) = true := by decide
/-- B21. -/
theorem test_rdTemperature : answers (runTransaction 0x09C00000000#41 afterE3) 0xF5#32 false = true := by decide
/-- P4: -2.5 °C. -/
theorem test_rdTemperature_negative :
    answers (runTransaction 0x09C00000000#41 { afterE3 with lf := 0x28050285B4#40 }) 0x0001FFE7#32 false = true := by
  decide
/-- B22. -/
theorem test_wrTemperature :
    nextIs (runTransaction 0x19C00000001#41 afterE3) (fun s => s.lf == frameE3 && !s.busErr) = true := by decide
/-- B24. -/
theorem test_rdReserved : answers (runTransaction 0x0BC00000000#41 afterE3) 0#32 false = true := by decide
/-- B25. -/
theorem test_wrReserved :
    nextIs (runTransaction 0x1A000000001#41 afterE3) (fun s => s.st == .idle && !s.busErr) = true := by decide
/-- 2.3: a byte write to CTRL starts nothing. -/
theorem test_busErrSubword :
    nextIs (runTransaction 0x10000000001#41 afterE3) (fun s => s == { afterE3 with rdata := 0, busErr := true }) =
      true := by decide
/-- 2.3: a reserved-size read of DATA0. -/
theorem test_busErrSz11 : answers (runTransaction 0x0D000000000#41 afterE3) 0#32 true = true := by decide
/-- 2.3: a word read at 0x05. -/
theorem test_busErrOffOdd : answers (runTransaction 0x08500000000#41 afterE3) 0#32 true = true := by decide
/-- 2.3: a word write at 0x06. -/
theorem test_busErrOffHalf : answers (runTransaction 0x18600000001#41 afterE3) 0#32 true = true := by decide

/-! ## Tick operations (95_test_vectors.md 2.4 to 2.7) -/

/-- S8. -/
theorem test_tickIdle : nextIs (runTick true afterE3) (fun s => s == afterE3) = true := by decide
/-- S5. -/
theorem test_tickStartLow_counts :
    nextIs (runTick true { started with cnt := 17998 }) (fun s => s.st == .startLow && s.cnt == 17999) = true := by
  decide
/-- S6. -/
theorem test_tickStartLow_ends :
    nextIs (runTick true { started with cnt := 17999 }) (fun s => s.st == .release && s.cnt == 0) = true := by decide
/-- S7. -/
theorem test_tickRelease :
    nextIs (runTick true releasing) (fun s => s.st == .wait && s.ph == 0 && s.cnt == 0 && !dqOe s) = true := by decide
/-- W9. -/
theorem test_tickWait_width :
    nextIs (runTick true (waitAt 3 50 false)) (fun s => s.pw[0]? == some (some 50#16) && s.ph == 4 && s.cnt == 1) =
      true := by decide
/-- W13. -/
theorem test_tickWait_sentinel :
    nextIs (runTick true (waitAt 82 999 true))
      (fun s => s.pw[79]? == some (some 0xFFFF#16) && s.st == .decode && s.k == 0) = true := by decide
/-- K3. -/
theorem test_tickDecode_last :
    nextIs (runTick true (decodeAt 39 0x19000C02A7#40)) (fun s => s.sr == frameE3 && s.st == .finish) = true := by
  decide
/-- K7: STATUS = 0x2752 if VALID was 0. -/
theorem test_tickDecode_sentinel :
    nextIs (runTick true { decodeAt 39 0#40 with pw := (pulsesOf frameE3).set 79 (some 0xFFFF#16) })
      (fun s => statusWord s == 0x2752#32 && s.lf == frameE3) = true := by decide
/-- R51. -/
theorem test_tickDecode_unwritten :
    faultIs (step (State.reset.withFetchWord 8 0b100)) (.unwrittenPulse 0) = true := by decide
/-- E3. -/
theorem test_tickFinish_good :
    nextIs (runTick true (finishWith frameE3)) (fun s => statusWord s == 0xE#32 && s.lf == frameE3) = true := by decide
/-- E7: a bad checksum keeps the last good frame. -/
theorem test_tickFinish_bad :
    nextIs (runTick true (finishWith 0x1122334400#40)) (fun s => statusWord s == 0x62#32 && s.lf == frameE3) = true := by
  decide
/-- R245. -/
theorem test_tickIllegal :
    nextIs (runTick true { started with st := .illegal7 }) (fun s => s == { started with st := .idle }) = true := by
  decide

/-- E5: the decoded bit is 1 iff d > m, whatever the scale. -/
theorem test_bitOf :
    bitOf 50 28 = false ∧ bitOf 50 70 = true ∧ bitOf 5 3 = false ∧ bitOf 500 700 = true ∧ bitOf 50 50 = false := by
  decide

/-- E2: b3 = 0x9E is -3.0 °C. -/
theorem test_tempX10 : tempX10 0x00_00_00_9E_00#40 = -30 ∧ tempNeg 0x00_00_00_9E_00#40 = true := by decide

/-! ## States with the invariant: one in each state of the tick engine -/

theorem inv_started : Inv started where
  legalState := by decide
  phaseRange := by decide
  bitRange := by decide
  budgetLegal := by decide
  startLowLegal := by decide
  cntStartLow := by decide
  cntWait := by decide
  captured := by decide
  capturedAll := by decide
  srCleared := by decide
  srDecoding := by decide
  srDecoded := by decide
  lfGood := by decide
  busyFlags := by decide
  okFlags := by decide
  errFlags := by decide
  errBitRange := by decide
  errBitZero := by decide
  prescRange := Nat.succ_pos _
  syncRange := Nat.two_pow_pos _

/-- Phase 5 of WAIT, with two pulses recorded and the next to be measured. -/
def waiting : State :=
  { waitAt 5 7 false with pw := ((Vector.replicate 80 none).set 0 (some 50#16)).set 1 (some 0xFFFF#16) }

theorem inv_waiting : Inv waiting where
  legalState := by decide
  phaseRange := by decide
  bitRange := by decide
  budgetLegal := by decide
  startLowLegal := by decide
  cntStartLow := by decide
  cntWait := by decide
  captured := by decide
  capturedAll := by decide
  srCleared := by decide
  srDecoding := by decide
  srDecoded := by decide
  lfGood := by decide
  busyFlags := by decide
  okFlags := by decide
  errFlags := by decide
  errBitRange := by decide
  errBitZero := by decide
  prescRange := Nat.succ_pos _
  syncRange := Nat.two_pow_pos _

theorem getElem?_pulsesOf (f : Frame) {i : Nat} (hi : i < 80) :
    (pulsesOf f)[i]? = some (if i % 2 = 0 then some 50#16
      else if f.getLsbD (39 - i / 2) then some 70#16 else some 27#16) := by
  simp [pulsesOf, hi]

/-- Every pulse of W_ref is written, below the budget and no sentinel. -/
theorem pulsesOf_spec (f : Frame) {i : Nat} (hi : i < 80) :
    pulseLegal (0x03E8#16).toNat (pulsesOf f) i = true ∧ isWritten (pulsesOf f) i = true ∧
      pulseAt (pulsesOf f) i ≠ sentinel := by
  simp only [pulseLegal, isWritten, pulseAt, getElem?_pulsesOf f hi]
  split_ifs <;> decide

/-- The pulses of W_ref spell the frame's bits, the most significant one first. -/
theorem bitOf_pulsesOf (f : Frame) {k : Nat} (hk : k < 40) :
    bitOf (pulseAt (pulsesOf f) (2 * k)) (pulseAt (pulsesOf f) (2 * k + 1)) = f.getLsbD (39 - k) := by
  have h1 : pulseAt (pulsesOf f) (2 * k) = 50#16 := by
    simp [pulseAt, getElem?_pulsesOf f (show 2 * k < 80 by omega)]
  have h2 : pulseAt (pulsesOf f) (2 * k + 1) = if f.getLsbD (39 - k) then 70#16 else 27#16 := by
    have e1 : ¬ (2 * k + 1) % 2 = 0 := by omega
    have e2 : (2 * k + 1) / 2 = k := by omega
    rw [pulseAt, getElem?_pulsesOf f (by omega), if_neg e1, e2]
    cases f.getLsbD (39 - k) <;> rfl
  rw [h1, h2]
  cases f.getLsbD (39 - k) <;> rfl

theorem decodedBits_pulsesOf_getLsbD (f : Frame) (n : Nat) (hn : n ≤ 40) (i : Nat) (hi : i < 40) :
    (decodedBits (pulsesOf f) n).getLsbD i = (decide (i < n) && f.getLsbD (40 - n + i)) := by
  induction n generalizing i with
  | zero => simp [decodedBits]
  | succ n ih =>
    rw [decodedBits, shiftIn_getLsbD, bitOf_pulsesOf f (by omega)]
    by_cases h0 : i = 0
    · subst h0
      simp
    · rw [if_neg h0, ih (by omega) (i - 1) (by omega), show 40 - n + (i - 1) = 40 - (n + 1) + i by omega]
      simp [hi, show i - 1 < n ↔ i < n + 1 by omega]

/-- 40 decode steps over the pulses of W_ref give the frame. -/
theorem decodedBits_pulsesOf (f : Frame) : decodedBits (pulsesOf f) 40 = f := by
  apply BitVec.eq_of_getLsbD_eq
  intro i hi
  rw [decodedBits_pulsesOf_getLsbD f 40 (by omega) i hi]
  simp [hi]

/-- DECODE after the bits 0, 0, 1 of E3's frame. -/
theorem inv_decoding : Inv (decodeAt 3 1#40) where
  legalState := by decide
  phaseRange := by decide
  bitRange := by decide
  budgetLegal := by decide
  startLowLegal := by decide
  cntStartLow := by decide
  cntWait := by decide
  captured := by decide
  capturedAll := fun _ _ hi => (pulsesOf_spec _ hi).1
  srCleared := by decide
  srDecoding := fun _ => ⟨by decide, fun _ hi => (pulsesOf_spec _ (Nat.lt_trans hi (by decide))).2.2⟩
  srDecoded := by decide
  lfGood := by decide
  busyFlags := by decide
  okFlags := by decide
  errFlags := by decide
  errBitRange := by decide
  errBitZero := by decide
  prescRange := Nat.succ_pos _
  syncRange := Nat.two_pow_pos _

/-- FINISH with any received frame. -/
theorem inv_finishing (f : Frame) : Inv (finishWith f) where
  legalState := ⟨nofun, nofun⟩
  phaseRange := by simp [finishWith]
  bitRange := by simp [finishWith]
  budgetLegal := inv_started.budgetLegal
  startLowLegal := inv_started.startLowLegal
  cntStartLow := nofun
  cntWait := nofun
  captured := nofun
  capturedAll := fun _ _ hi => (pulsesOf_spec f hi).1
  srCleared := by simp [finishWith]
  srDecoding := nofun
  srDecoded := fun _ => ⟨(decodedBits_pulsesOf f).symm, fun _ hi => (pulsesOf_spec f hi).2.2⟩
  lfGood := inv_started.lfGood
  busyFlags := fun _ => ⟨rfl, rfl, rfl, rfl⟩
  okFlags := nofun
  errFlags := fun h => absurd rfl h
  errBitRange := inv_started.errBitRange
  errBitZero := fun _ _ => rfl
  prescRange := Nat.succ_pos _
  syncRange := Nat.two_pow_pos _

/-! ## Witnesses: for each obligation with hypotheses, a state and operands that meet them, one for each clause -/

/-- An idle line with no transaction and no reset, the line at `ext`. -/
def quietPins (ext : Bool) : Pins := ⟨true, none, ext⟩

theorem witness_ResetLeavesTheTableValues :
    ∃ s t : State, s ≠ t ∧ perform .reset s = .next t := ⟨started, State.reset, by decide, rfl⟩

theorem witness_StepRunsTheDecodedOperation :
    (∃ (s : State) (t : TxWord) (rest : List Event), s.inbox = .host t :: rest) ∧
    (∃ (s : State) (l : Bool) (rest : List Event), s.inbox = .tick l :: rest ∧ s.st = .wait) ∧
    (∃ (s : State) (l : Bool) (rest : List Event), s.inbox = .tick l :: rest ∧ s.st ≠ .wait) :=
  ⟨⟨{ started with inbox := [.host 0x08400000000#41, .reset] }, _, _, rfl⟩,
    ⟨{ waiting with inbox := [.tick true] }, _, _, rfl, rfl⟩,
    ⟨{ started with inbox := [.tick false] }, _, _, rfl, nofun⟩⟩

theorem witness_StepPerformsTheOtherEvents :
    (∃ (s : State) (rest : List Event), s.inbox = .reset :: rest) ∧
    (∃ (s : State) (a : Access) (rest : List Event), s.inbox = .access a :: rest) ∧
    (∃ (s : State) (p : Pins) (rest : List Event), s.inbox = .cycle p :: rest) ∧
    (∃ s : State, s.inbox = []) :=
  ⟨⟨{ started with inbox := [.reset] }, _, rfl⟩,
    ⟨{ started with inbox := [.access ⟨false, 0b10#2, Config.base, 0#32⟩] }, _, _, rfl⟩,
    ⟨{ started with inbox := [.cycle (quietPins true)] }, _, _, rfl⟩, ⟨started, rfl⟩⟩

theorem witness_FetchWordRunsItsOperation :
    decodeTableWord 48 0x18000000001 = some (.wrCtrl 1#32) ∧ 32 < 48 ∧
    decodeTableWord 8 0b011 = some .tickWait ∧ 8 ≤ 32 := by decide

theorem witness_QueuedEventsRunInOrder :
    ∃ (es rest : List Event) (s t : State), es ≠ [] ∧ runEvents es { s with inbox := rest } = .next t :=
  ⟨[.host 0x18000000001#41, .tick true, .reset], [.tick false], afterE3, { State.reset with inbox := [.tick false] },
    by decide, rfl⟩

theorem witness_DecodeOfEncodeIsTheInstruction :
    wellFormed (.rdReserved 0x20#6 0#32) = true ∧ wellFormed (.wrReserved 0x3C#6 1#32) = true ∧
    wellFormed (.busErrSubword true 0b01#2 0x3F#6 1#32) = true ∧ wellFormed (.busErrOffOdd false 0x3F#6 0#32) = true ∧
    wellFormed (.busErrOffHalf false 0x3E#6 0#32) = true ∧ wellFormed (.tickIllegal true) = true := by decide

/-- The hypothesis of `rowReads`, at a word with all data bits set. -/
theorem witness_rowReads :
    0x080FFFFFFFF#41 &&& 0x1FF00000000#41 = 0x08000000000#41 ∧
    0x19CFFFFFFFF#41 &&& 0x1FF00000000#41 = 0x19C00000000#41 := by decide

theorem witness_CtrlAndReservedReadsAnswerZero :
    0x0A0FFFFFFFF#41 &&& 0x1E300000000#41 = 0x0A000000000#41 ∧
    0x0BC00000000#41 &&& 0x1E300000000#41 = 0x0A000000000#41 := by decide

theorem witness_StatusReadReturnsTheFlags : ∃ s : State, Inv s ∧ s.st ≠ .idle := ⟨waiting, inv_waiting, nofun⟩

theorem witness_DataReadsReturnTheFrameBytes : ∃ s : State, Inv s ∧ s.lf ≠ 0 := ⟨started, inv_started, by decide⟩

theorem witness_CtrlWriteStartsOnlyWhenIdle :
    (∃ (d : Word) (s : State), d.getLsbD 0 = true ∧ s.st = .idle) ∧
    (∃ (d : Word) (s : State), d.getLsbD 0 = false ∧ s.st = .idle) ∧
    (∃ (d : Word) (s : State), d.getLsbD 0 = true ∧ s.st ≠ .idle) :=
  ⟨⟨0xFFFFFFFF#32, afterE3, by decide, rfl⟩, ⟨0xFFFFFFFE#32, afterE3, by decide, rfl⟩,
    ⟨1#32, started, by decide, nofun⟩⟩

theorem witness_ConfigWritesClampAndAreIgnoredWhileBusy :
    (∃ s : State, s.st = .idle) ∧ ∃ s : State, s.st ≠ .idle := ⟨⟨afterE3, rfl⟩, ⟨started, nofun⟩⟩

theorem witness_ReadOnlyAndReservedWritesAreIgnored :
    0x1A000000001#41 &&& 0x1E300000000#41 = 0x1A000000000#41 ∧
    0x1BCFFFFFFFF#41 &&& 0x1E300000000#41 = 0x1A000000000#41 := by decide

theorem witness_RefusedTransactionsOnlyAnswerAnError :
    isRefused 0x10000000001#41 ∧ isRefused 0x0C000000000#41 ∧ isRefused 0x08500000000#41 ∧
    isRefused 0x18600000001#41 := by
  unfold isRefused
  decide

theorem witness_AcceptedTransactionsAnswerWithoutError :
    (∃ t : TxWord, ¬ isRefused t ∧ txW t = true) ∧ ∃ t : TxWord, ¬ isRefused t ∧ txW t = false := by
  unfold isRefused
  exact ⟨⟨0x18000000001#41, by decide⟩, ⟨0x0BC00000000#41, by decide⟩⟩

theorem witness_ReadsHaveNoSideEffects :
    (∃ (t : TxWord) (s u : State), runTransaction t s = .next u ∧ txW t = false) ∧
    ∃ (t : TxWord) (s u : State), runTransaction t s = .next u ∧ txW t = true ∧ 16 ≤ (txOff t).toNat :=
  ⟨⟨0x08400000000#41, afterE3, _, rfl, by decide⟩, ⟨0x19000000001#41, afterE3, _, rfl, by decide, by decide⟩⟩

theorem witness_WindowBytesAreLittleEndianLanes :
    (∃ (t : TxWord) (s u : State) (i : Nat), ¬ isRefused t ∧ txW t = false ∧ i < 4 ∧
      runTransaction t s = .next u) ∧ (4 < 5 ∧ 0x20 ≤ 0x20) := by
  unfold isRefused
  exact ⟨⟨0x09000000000#41, afterE3, _, 3, by decide, by decide, by decide, rfl⟩, by decide⟩

theorem witness_OnlyWindowAddressesReachTheBlock :
    (∃ (a : Access) (off : BitVec 6), a.addr = Config.base + off.toNat ∧ off = 0x3F#6) ∧
    ∃ a : Access, a.addr < Config.base ∨ Config.base + 64 ≤ a.addr :=
  ⟨⟨⟨false, 0b10#2, Config.base + 0x3F, 0#32⟩, 0x3F#6, rfl, rfl⟩,
    ⟨⟨false, 0b10#2, Config.base + 64, 0#32⟩, .inr (Nat.le_refl _)⟩⟩

theorem witness_InternalStateCannotReachTheHost :
    ∃ (t : TxWord) (s₁ s₂ u₁ : State), s₁ ≠ s₂ ∧ hostVisibleEq s₁ s₂ ∧ runTransaction t s₁ = .next u₁ :=
  ⟨0x08400000000#41, waiting, decodeAt 3 1#40, _, by decide, ⟨rfl, rfl, rfl, rfl, rfl, rfl, rfl, rfl, rfl⟩, rfl⟩

theorem witness_BusyTransactionsOnlyClearDone :
    ∃ (t : TxWord) (s u : State), s.st ≠ .idle ∧ runTransaction t s = .next u :=
  ⟨0x18400000002#41, waiting, _, nofun, rfl⟩

theorem witness_IdleTicksChangeNothing : ∃ s : State, s.st = .idle := ⟨afterE3, rfl⟩

theorem witness_StartLowLastsItsTicks :
    (∃ s : State, s.cnt.toNat + 1 = s.startLowMs.toNat * 1000) ∧
    (∃ s : State, s.cnt.toNat + 1 ≠ s.startLowMs.toNat * 1000) ∧
    (∃ (levels : List Bool) (s : State), s.st = .startLow ∧ s.cnt = 0 ∧
      levels.length < s.startLowMs.toNat * 1000) ∧
    ∃ (levels : List Bool) (s : State), s.st = .startLow ∧ s.cnt = 0 ∧ 1 ≤ s.startLowMs.toNat ∧
      levels.length = s.startLowMs.toNat * 1000 :=
  ⟨⟨{ started with cnt := 17999 }, by decide⟩, ⟨{ started with cnt := 17998 }, by decide⟩,
    ⟨List.replicate 17999 true, started, rfl, rfl, by rw [List.length_replicate]; decide⟩,
    ⟨List.replicate 18000 true, started, rfl, rfl, by decide, by rw [List.length_replicate]; decide⟩⟩

theorem witness_ReleaseTickEntersPhaseZero : ∃ s : State, s.st = .release := ⟨releasing, rfl⟩

theorem witness_StartConditionHasItsCycleLengths :
    ∃ (s : State) (t : TxWord) (d : Word) (a b c : List Pins),
      Inv s ∧ s.st = .idle ∧ decodeBus t = .wrCtrl d ∧ d.getLsbD 0 = true ∧
      (∀ p ∈ a ++ b ++ c, p.rstN = true) ∧
      a.length < s.startLowMs.toNat * 1000 * Config.clkPerUs ∧
      (b.length = s.startLowMs.toNat * 1000 * Config.clkPerUs ∧
        b.length < (s.startLowMs.toNat * 1000 + 1) * Config.clkPerUs) ∧
      c.length = (s.startLowMs.toNat * 1000 + 1) * Config.clkPerUs := by
  have hP : 0 < Config.clkPerUs := Nat.succ_pos _
  refine ⟨afterE3, 0x18000000001#41, 1#32, [], List.replicate (18 * 1000 * Config.clkPerUs) (quietPins true),
    List.replicate ((18 * 1000 + 1) * Config.clkPerUs) (quietPins false), ?_, rfl, by decide, by decide, ?_, ?_, ?_, ?_⟩
  · exact { inv_started with
      legalState := ⟨nofun, nofun⟩
      cntStartLow := nofun
      cntWait := nofun
      captured := nofun
      capturedAll := by simp [afterE3]
      srCleared := by simp [afterE3]
      srDecoding := nofun
      srDecoded := nofun
      busyFlags := nofun
      okFlags := fun _ => ⟨rfl, rfl⟩ }
  · intro p hp
    simp only [List.nil_append, List.mem_append] at hp
    rcases hp with h | h <;> rw [List.eq_of_mem_replicate h] <;> rfl
  · simp [afterE3]
    exact hP
  · simp [afterE3, hP]
  · simp [afterE3]

/-- The three clauses, at both ends of the handshake's phases and at the last count of the budget. -/
theorem witness_HandshakePhaseEndsByTransitionOrFailure :
    (∃ s : State, s.ph.toNat = 2 ∧ s.dqS = decide (s.ph.toNat % 2 = 0) ∧ s.cnt.toNat + 1 < s.timeoutUs.toNat ∧
      s.cnt = 998) ∧
    (∃ s : State, s.ph.toNat = 0 ∧ s.dqS ≠ decide (s.ph.toNat % 2 = 0)) ∧
    ∃ s : State, s.ph.toNat = 1 ∧ s.dqS = decide (s.ph.toNat % 2 = 0) ∧ s.timeoutUs.toNat ≤ s.cnt.toNat + 1 ∧
      s.cnt = 999 :=
  ⟨⟨waitAt 2 998 true, by decide⟩, ⟨waitAt 0 0 false, by decide⟩, ⟨waitAt 1 999 false, by decide⟩⟩

/-- The five clauses, at the first, the last but one and the last capture phase. -/
theorem witness_CapturePhaseRecordsWidthOrSentinel :
    (∃ (s : State) (i : Fin 80), s.ph.toNat = i.val + 3 ∧ s.dqS = decide (s.ph.toNat % 2 = 0) ∧
      s.cnt.toNat + 1 < s.timeoutUs.toNat) ∧
    (∃ (s : State) (i : Fin 80), s.ph.toNat = i.val + 3 ∧ s.dqS ≠ decide (s.ph.toNat % 2 = 0) ∧ i.val < 79) ∧
    (∃ (s : State) (i : Fin 80), s.ph.toNat = i.val + 3 ∧ s.dqS ≠ decide (s.ph.toNat % 2 = 0) ∧ i.val = 79) ∧
    (∃ (s : State) (i : Fin 80), s.ph.toNat = i.val + 3 ∧ s.dqS = decide (s.ph.toNat % 2 = 0) ∧
      s.timeoutUs.toNat ≤ s.cnt.toNat + 1 ∧ i.val < 79) ∧
    ∃ (s : State) (i : Fin 80), s.ph.toNat = i.val + 3 ∧ s.dqS = decide (s.ph.toNat % 2 = 0) ∧
      s.timeoutUs.toNat ≤ s.cnt.toNat + 1 ∧ i.val = 79 :=
  ⟨⟨waitAt 3 998 false, 0, by decide⟩, ⟨waitAt 81 998 true, 78, by decide⟩, ⟨waitAt 82 998 false, 79, by decide⟩,
    ⟨waitAt 81 999 false, 78, by decide⟩, ⟨waitAt 82 999 true, 79, by decide⟩⟩

theorem witness_RecordedWidthIsTheSampleCount :
    (∃ (s : State) (i n : Nat), s.st = .wait ∧ i < 79 ∧ s.ph.toNat = i + 3 ∧ s.cnt.toNat ≤ n ∧
      n < s.timeoutUs.toNat) ∧
    ∃ (s : State) (i n : Nat), s.st = .wait ∧ i = 79 ∧ s.ph.toNat = i + 3 ∧ s.cnt.toNat ≤ n ∧
      n < s.timeoutUs.toNat :=
  ⟨⟨waitAt 3 1 false, 0, 999, by decide⟩, ⟨waitAt 82 1 true, 79, 1, by decide⟩⟩

/-- The shortest and the longest pulses of R174 at the reset configuration. -/
theorem witness_CleanWaveformIsCaptured :
    ∃ (s : State) (a0 a1 a2 : Nat) (m d : Nat → Nat), s.st = .wait ∧ s.ph = 0 ∧ s.cnt = 0 ∧
      a0 + 1 ≤ s.timeoutUs.toNat ∧ (1 ≤ a1 ∧ a1 + 1 ≤ s.timeoutUs.toNat) ∧
      (1 ≤ a2 ∧ a2 + 1 ≤ s.timeoutUs.toNat) ∧
      ∀ j < 40, 1 ≤ m j ∧ m j + 1 ≤ s.timeoutUs.toNat ∧ 1 ≤ d j ∧ d j + 1 ≤ s.timeoutUs.toNat :=
  ⟨waitAt 0 0 true, 0, 999, 1, fun _ => 1, fun _ => 999, rfl, rfl, rfl, by decide, by decide, by decide,
    fun _ _ => by dsimp only; decide⟩

theorem witness_SilentSensorFailsAfterTheBudget :
    ∃ s : State, s.st = .wait ∧ s.ph = 0 ∧ s.cnt = 0 ∧ 2 ≤ s.timeoutUs.toNat :=
  ⟨waitAt 0 0 true, rfl, rfl, rfl, by decide⟩

theorem witness_DecodeTickReconstructsOneBit :
    (∃ (s : State) (m d : Width), s.pw[2 * s.k.toNat]? = some (some m) ∧
      s.pw[2 * s.k.toNat + 1]? = some (some d) ∧ m = 0xFFFF#16) ∧
    (∃ (s : State) (m d : Width), s.pw[2 * s.k.toNat]? = some (some m) ∧
      s.pw[2 * s.k.toNat + 1]? = some (some d) ∧ m ≠ 0xFFFF#16 ∧ d = 0xFFFF#16) ∧
    (∃ (s : State) (m d : Width), s.pw[2 * s.k.toNat]? = some (some m) ∧
      s.pw[2 * s.k.toNat + 1]? = some (some d) ∧ m ≠ 0xFFFF#16 ∧ d ≠ 0xFFFF#16 ∧ s.k.toNat = 39) ∧
    ∃ (s : State) (m d : Width), s.pw[2 * s.k.toNat]? = some (some m) ∧
      s.pw[2 * s.k.toNat + 1]? = some (some d) ∧ m ≠ 0xFFFF#16 ∧ d ≠ 0xFFFF#16 ∧ s.k.toNat ≠ 39 :=
  ⟨⟨{ decodeAt 0 0 with pw := (pulsesOf frameE3).set 0 (some 0xFFFF#16) }, 0xFFFF#16, 27#16, by decide⟩,
    ⟨{ decodeAt 0 0 with pw := (pulsesOf frameE3).set 1 (some 0xFFFF#16) }, 50#16, 0xFFFF#16, by decide⟩,
    ⟨decodeAt 39 0x19000C02A7#40, 50#16, 70#16, by decide⟩, ⟨decodeAt 0 0, 50#16, 27#16, by decide⟩⟩

theorem witness_UnwrittenPulseReadFaults :
    (∃ s : State, s.pw[2 * s.k.toNat]? = some none) ∧
    ∃ (s : State) (m : Width), s.pw[2 * s.k.toNat]? = some (some m) ∧ s.pw[2 * s.k.toNat + 1]? = some none :=
  ⟨⟨State.reset, by decide⟩,
    ⟨{ State.reset with pw := State.reset.pw.set 0 (some 50#16) }, 50#16, by decide, by decide⟩⟩

/-- A sentinel in the marker of bit 0, and one in the data pulse of bit 39. -/
theorem witness_DecodeReportsTheFirstSentinel :
    (∃ s : State, s.st = .decode ∧ s.k = 0 ∧ (∀ j < 80, isWritten s.pw j = true) ∧ pulseAt s.pw 0 = 0xFFFF#16) ∧
    ∃ s : State, s.st = .decode ∧ s.k = 0 ∧ (∀ j < 80, isWritten s.pw j = true) ∧ pulseAt s.pw 79 = 0xFFFF#16 ∧
      ∀ j < 79, pulseAt s.pw j ≠ 0xFFFF#16 := by
  refine ⟨⟨{ decodeAt 0 0 with pw := (pulsesOf frameE3).set 0 (some 0xFFFF#16) }, rfl, rfl, fun j hj => ?_, ?_⟩,
    ⟨{ decodeAt 0 0 with pw := (pulsesOf frameE3).set 79 (some 0xFFFF#16) }, rfl, rfl, fun j hj => ?_, ?_,
      fun j hj => ?_⟩⟩
  · simp [isWritten_set, (pulsesOf_spec frameE3 hj).2.1]
  · simp [pulseAt_set]
  · simp [isWritten_set, (pulsesOf_spec frameE3 hj).2.1]
  · simp [pulseAt_set]
  · have h := (pulsesOf_spec frameE3 (show j < 80 by omega)).2.2
    simp only [pulseAt_set, show ¬ 79 = j by omega, if_false]
    exact h

theorem witness_DecodeAlignsTheFrame :
    ∃ (s : State) (levels : List Bool), s.st = .decode ∧ s.k = 0 ∧ allMeasured s.pw ∧ levels.length = 40 :=
  ⟨decodeAt 0 0x5A#40, List.replicate 40 true, rfl, rfl,
    fun _ hi => ⟨(pulsesOf_spec frameE3 hi).2.1, (pulsesOf_spec frameE3 hi).2.2⟩, by simp⟩

/-- The pulses of W_ref at ten times their width. -/
def pulses10 (f : Frame) : Vector (Option Width) 80 :=
  Vector.ofFn fun i =>
    if i.val % 2 = 0 then some 500#16
    else if f.getLsbD (39 - i.val / 2) then some 700#16 else some 270#16

theorem pulses10_spec (f : Frame) {i : Nat} (hi : i < 80) :
    isWritten (pulses10 f) i = true ∧ pulseAt (pulses10 f) i ≠ 0xFFFF#16 ∧
      (pulseAt (pulses10 f) i).toNat = 10 * (pulseAt (pulsesOf f) i).toNat := by
  have h : (pulses10 f)[i]? = some (if i % 2 = 0 then some 500#16
      else if f.getLsbD (39 - i / 2) then some 700#16 else some 270#16) := by
    simp [pulses10, hi]
  simp only [isWritten, pulseAt, h, getElem?_pulsesOf f hi]
  split_ifs <;> decide

/-- Decode ticks of measured pulses always answer. -/
theorem runTicks_decode_next (levels : List Bool) (s : State) (hs : s.st = .decode) (hp : allMeasured s.pw)
    (hk : s.k.toNat + levels.length ≤ 40) : ∃ u, runTicks levels s = .next u := by
  induction levels generalizing s with
  | nil => exact ⟨s, rfl⟩
  | cons l ls ih =>
    rw [List.length_cons] at hk
    have h1 := hp (2 * s.k.toNat) (by omega)
    have h2 := hp (2 * s.k.toNat + 1) (by omega)
    rw [runTicks_cons, runTick_decode_written l hs h1.1 h2.1]
    dsimp only
    rw [if_neg (show pulseAt s.pw _ ≠ sentinel from h1.2), if_neg (show pulseAt s.pw _ ≠ sentinel from h2.2)]
    split
    · rename_i h39
      rw [h39] at hk
      have hl : ls = [] := List.eq_nil_of_length_eq_zero (by simp at hk; omega)
      subst hl
      exact ⟨_, rfl⟩
    · rename_i h39
      have e : (s.k + 1).toNat = s.k.toNat + 1 := by
        rw [BitVec.toNat_add]
        simp
        omega
      exact ih _ hs hp (by show (s.k + 1).toNat + ls.length ≤ 40; omega)

/-- Both runs answer: 40 decode ticks of measured pulses always do. -/
theorem witness_DecodingIsScaleInvariant :
    ∃ (s₁ s₂ u₁ u₂ : State) (c : Nat) (levels : List Bool), 0 < c ∧
      s₁.st = .decode ∧ s₁.k = 0 ∧ s₂.st = .decode ∧ s₂.k = 0 ∧ allMeasured s₁.pw ∧ allMeasured s₂.pw ∧
      (∀ i < 80, (pulseAt s₂.pw i).toNat = c * (pulseAt s₁.pw i).toNat) ∧ levels.length = 40 ∧
      runTicks levels s₁ = .next u₁ ∧ runTicks levels s₂ = .next u₂ := by
  have h1 : allMeasured (pulsesOf frameE3) :=
    fun _ hi => ⟨(pulsesOf_spec frameE3 hi).2.1, (pulsesOf_spec frameE3 hi).2.2⟩
  have h2 : allMeasured (pulses10 frameE3) :=
    fun _ hi => ⟨(pulses10_spec frameE3 hi).1, (pulses10_spec frameE3 hi).2.1⟩
  have hl : (0#6).toNat + (List.replicate 40 true).length ≤ 40 := by simp
  obtain ⟨u₁, r1⟩ := runTicks_decode_next (List.replicate 40 true) (decodeAt 0 0) rfl h1 hl
  obtain ⟨u₂, r2⟩ := runTicks_decode_next (List.replicate 40 true)
    { decodeAt 0 0x5A#40 with pw := pulses10 frameE3 } rfl h2 hl
  exact ⟨_, _, u₁, u₂, 10, _, by decide, rfl, rfl, rfl, rfl, h1, h2,
    fun _ hi => (pulses10_spec frameE3 hi).2.2, by simp, r1, r2⟩

theorem witness_CommittedFrameDependsOnlyOnThePulses :
    ∃ s₁ s₂ u₁ u₂ : State, s₁ ≠ s₂ ∧ Inv s₁ ∧ Inv s₂ ∧ s₁.st = .finish ∧ s₂.st = .finish ∧ s₁.pw = s₂.pw ∧
      exec .tickFinish s₁ = .next u₁ ∧ exec .tickFinish s₂ = .next u₂ :=
  ⟨finishWith frameE3, { finishWith frameE3 with lf := 0#40 }, _, _, by decide,
    inv_finishing _, { inv_finishing frameE3 with lfGood := by decide }, rfl, rfl, rfl, rfl, rfl⟩

theorem witness_FinishTickCommitsOrRejects :
    (∃ s : State, (byteNat s.sr 0 + byteNat s.sr 1 + byteNat s.sr 2 + byteNat s.sr 3) % 256 = byteNat s.sr 4) ∧
    ∃ s : State, (byteNat s.sr 0 + byteNat s.sr 1 + byteNat s.sr 2 + byteNat s.sr 3) % 256 ≠ byteNat s.sr 4 :=
  ⟨⟨finishWith frameE3, by decide⟩, ⟨finishWith 0x1122334400#40, by decide⟩⟩

theorem witness_IllegalCodesReturnToIdle : ∃ s : State, s.st = .illegal6 ∨ s.st = .illegal7 :=
  ⟨{ started with st := .illegal6 }, .inl rfl⟩

/-- A clean acquisition of E3's frame, whose checksum holds, and of E7's first frame, whose checksum fails. -/
theorem witness_CleanAcquisitionCompletesExactly (f : Frame) (_ : f = frameE3 ∨ f = 0x1122334400#40) :
    ∃ (s : State) (a0 a1 a2 : Nat) (m d : Nat → Nat) (before after : List Bool),
      Inv s ∧ s.st = .startLow ∧ s.cnt = 0 ∧ a0 + 1 ≤ s.timeoutUs.toNat ∧
      (1 ≤ a1 ∧ a1 + 1 ≤ s.timeoutUs.toNat) ∧ (1 ≤ a2 ∧ a2 + 1 ≤ s.timeoutUs.toNat) ∧
      (∀ j < 40, 1 ≤ m j ∧ m j + 1 ≤ s.timeoutUs.toNat ∧ 1 ≤ d j ∧ d j + 1 ≤ s.timeoutUs.toNat) ∧
      (∀ j < 40, f.getLsbD (39 - j) = decide (m j < d j)) ∧
      before.length = s.startLowMs.toNat * 1000 + 1 ∧ after.length = 41 := by
  refine ⟨started, 20, 80, 80, fun _ => 50, fun j => if f.getLsbD (39 - j) then 70 else 27,
    List.replicate 18001 true, List.replicate 41 false, inv_started, rfl, rfl, by decide, by decide, by decide,
    fun j _ => ?_, fun j _ => ?_, ?_, by simp⟩
  · dsimp only
    split <;> decide
  · dsimp only
    split <;> simp_all
  · rw [List.length_replicate]
    decide

theorem witness_EveryStepKeepsTheInvariant :
    ∃ s t : State, Inv s ∧ step s = .next t :=
  ⟨{ started with inbox := [.host 0x18400000002#41] }, _, { inv_started with }, rfl⟩

theorem witness_NoReachableStepStops : ∃ s : State, Inv s ∧ s.st = .decode := ⟨_, inv_decoding, rfl⟩

theorem witness_EveryAcquisitionEnds :
    ∃ (s : State) (levels : List Bool), Inv s ∧ s.st = .startLow ∧ s.cnt = 0 ∧
      levels.length = s.startLowMs.toNat * 1000 + 1 + (3 * s.timeoutUs.toNat - 2) + 80 * s.timeoutUs.toNat + 41 :=
  ⟨started, List.replicate 101040 true, inv_started, rfl, rfl, by rw [List.length_replicate]; decide⟩

theorem witness_EveryBusyTickComesCloserToTheEnd : ∃ s : State, Inv s ∧ s.st ≠ .idle :=
  ⟨waiting, inv_waiting, nofun⟩

theorem witness_OnlyTheTabledEventsWriteFlags :
    (∃ (e : Event) (s u : State), (∃ t, e = .host t) ∧ Inv s ∧ perform e s = .next u) ∧
    ∃ (e : Event) (s u : State), (∃ l, e = .tick l) ∧ Inv s ∧ perform e s = .next u :=
  ⟨⟨.host 0x18400000002#41, waiting, _, ⟨_, rfl⟩, inv_waiting, rfl⟩,
    ⟨.tick true, finishWith frameE3, _, ⟨_, rfl⟩, inv_finishing _, rfl⟩⟩

theorem witness_ReadingChangesOnlyAtCompletion :
    ∃ (e : Event) (s u : State), (∃ l, e = .tick l) ∧ perform e s = .next u ∧ u.lf ≠ s.lf :=
  ⟨.tick true, { finishWith frameE3 with lf := 0 }, _, ⟨_, rfl⟩, rfl, by decide⟩

theorem witness_ConfigurationIsConstantWhileBusy :
    ∃ (e : Event) (s u : State), s.st ≠ .idle ∧ e ≠ .reset ∧ (∀ p, e = .cycle p → p.rstN = true) ∧
      perform e s = .next u :=
  ⟨.host 0x18800000005#41, waiting, _, nofun, nofun, nofun, rfl⟩

/-- A state in the last cycle of a tick period. -/
def lastCycle (s : State) : State := { s with presc := Config.clkPerUs - 1 }

/-- A reset; a tick without and with a transaction; no tick by PRESC and by an accepted START. -/
theorem witness_CycleIsTransactionThenTick :
    (∃ (p : Pins) (s u : State), p.rstN = false ∧ runCycle p s = .next u) ∧
    (∃ (p : Pins) (s u : State), p.rstN = true ∧ p.req = none ∧ s.presc = Config.clkPerUs - 1 ∧
      runCycle p s = .next u) ∧
    (∃ (p : Pins) (s u : State) (t : TxWord), p.rstN = true ∧ p.req = some t ∧ decodeBus t = .wrStatus 2#32 ∧
      s.presc = Config.clkPerUs - 1 ∧ runCycle p s = .next u) ∧
    (∃ (p : Pins) (s u : State), p.rstN = true ∧ s.presc ≠ Config.clkPerUs - 1 ∧ runCycle p s = .next u) ∧
    ∃ (p : Pins) (s u : State) (t : TxWord) (d : Word), p.rstN = true ∧ p.req = some t ∧
      decodeBus t = .wrCtrl d ∧ d.getLsbD 0 = true ∧ s.st = .idle ∧ s.presc = Config.clkPerUs - 1 ∧
      runCycle p s = .next u :=
  ⟨⟨⟨false, some 0x18000000001#41, true⟩, started, _, rfl, rfl⟩,
    ⟨quietPins true, lastCycle releasing, _, rfl, rfl, rfl,
      (prescale_last rfl).trans (runTick_release rfl)⟩,
    ⟨⟨true, some 0x18400000002#41, true⟩, lastCycle releasing, _, _, rfl, rfl, by decide, rfl,
      (prescale_last rfl).trans (runTick_release rfl)⟩,
    ⟨quietPins true, { releasing with presc := Config.clkPerUs }, _, rfl, Nat.succ_ne_self _,
      prescale_inner (Nat.succ_ne_self _)⟩,
    ⟨⟨true, some 0x18000000001#41, true⟩, lastCycle afterE3, _, _, 1#32, rfl, rfl, by decide, by decide, rfl, rfl,
      rfl⟩⟩

theorem witness_PrescalerMakesTheTicks :
    (∃ s : State, s.presc + 1 = Config.clkPerUs) ∧ ∃ s : State, s.presc + 1 ≠ Config.clkPerUs :=
  ⟨⟨lastCycle started, rfl⟩, ⟨{ started with presc := Config.clkPerUs }, Nat.succ_ne_self _⟩⟩

theorem witness_ResetCycleOverridesEverything : ∃ p : Pins, p.rstN = false ∧ p.req ≠ none :=
  ⟨⟨false, some 0x18000000001#41, true⟩, rfl, nofun⟩

/-- Z2: the cycle of the completing tick. -/
theorem witness_CompletionWinsOverDoneClear :
    ∃ (s u v : State) (t : TxWord) (d : Word) (ext : Bool), s.st ≠ .idle ∧ decodeBus t = .wrStatus d ∧
      runCycle ⟨true, none, ext⟩ s = .next u ∧ u.st = .idle ∧ u.done = true ∧ s.done = false ∧
      runCycle ⟨true, some t, ext⟩ s = .next v :=
  ⟨lastCycle (finishWith frameE3), _, _, 0x18400000002#41, 2#32, true, nofun, by decide,
    (prescale_last rfl).trans ((runTick_finish rfl).trans rfl), rfl, rfl, rfl,
    (prescale_last rfl).trans ((runTick_finish rfl).trans rfl)⟩

end Sys2Proof.Tests
end

section
/-! PROOFS of the scope statements (00_scope.md): what an event leaves alone and never reads (the queue; for a tick
also PRESC and the synchroniser), the equations of the step and of the host's run over the queue, and the scope
obligations. -/

namespace Sys2Proof.Machine

/-! ## What no tick reads or writes -/

/-- A change of PRESC, the synchroniser and the queue alone. -/
def State.mapClock (p n : Nat → Nat) (q : List Event → List Event) (s : State) : State :=
  { s with presc := p s.presc, sync := n s.sync, inbox := q s.inbox }

@[simp] theorem State.mapClock_st (p n : Nat → Nat) (q : List Event → List Event) (s : State) :
    (s.mapClock p n q).st = s.st := rfl
@[simp] theorem State.mapClock_ph (p n : Nat → Nat) (q : List Event → List Event) (s : State) :
    (s.mapClock p n q).ph = s.ph := rfl

/-- A sequence after a branch is the sequence in each branch. -/
theorem andThen_ite {c : Prop} [Decidable c] (a b : Host.Outcome State Fault Refusal)
    (f : State → Host.Outcome State Fault Refusal) :
    andThen (if c then a else b) f = if c then andThen a f else andThen b f := by
  split <;> rfl

section Tick
variable (p n : Nat → Nat) (q : List Event → List Event)

theorem advanceCapture_mapClock (c : BitVec 18) (s : State) :
    advanceCapture c (s.mapClock p n q) = (advanceCapture c s).mapClock p n q := by
  by_cases h : s.ph = 82#7
  · simp [advanceCapture, State.mapClock, h]
  · simp [advanceCapture, State.mapClock, h]

theorem writePulse_mapClock (i : Nat) (w : Width) (s : State) :
    writePulse i w (s.mapClock p n q) = andThen (writePulse i w s) fun t => .next (t.mapClock p n q) := by
  by_cases h : i < 80
  · rw [writePulse_of_lt h, writePulse_of_lt h]
    rfl
  · simp [writePulse, h]

/-- Recording a pulse and ending its phase (R167, R168). -/
theorem recordPulse_mapClock (i : Nat) (w : Width) (c : BitVec 18) (s : State) :
    andThen (writePulse i w (s.mapClock p n q)) (fun t => .next (advanceCapture c t)) =
      andThen (andThen (writePulse i w s) fun t => .next (advanceCapture c t)) fun t =>
        .next (t.mapClock p n q) := by
  simp only [writePulse_mapClock, andThen_assoc, andThen_next, advanceCapture_mapClock]

theorem phaseDone_mapClock (w : BitVec 18) (s : State) :
    phaseDone w (s.mapClock p n q) = andThen (phaseDone w s) fun t => .next (t.mapClock p n q) := by
  by_cases h : s.ph.toNat ≤ 2
  · rw [phaseDone_handshake h, phaseDone_handshake (s := s.mapClock p n q) h]
    rfl
  · rw [phaseDone, phaseDone, State.mapClock_ph, if_neg h, if_neg h]
    exact recordPulse_mapClock p n q ..

theorem phaseTimeout_mapClock (s : State) :
    phaseTimeout (s.mapClock p n q) = andThen (phaseTimeout s) fun t => .next (t.mapClock p n q) := by
  unfold phaseTimeout
  rw [State.mapClock_ph]
  split
  · rfl
  · rfl
  · rfl
  · exact recordPulse_mapClock p n q ..

theorem execTickWait_mapClock (s : State) :
    execTickWait (s.mapClock p n q) = andThen (execTickWait s) fun t => .next (t.mapClock p n q) := by
  unfold execTickWait
  rw [andThen_ite, andThen_ite, ← phaseDone_mapClock, ← phaseTimeout_mapClock]
  rfl

/-- An operation after a read of a pulse register is the last part of the read. -/
theorem andThen_readPulse (i : Nat) (s : State) (f : Width → Host.Outcome State Fault Refusal)
    (g : State → Host.Outcome State Fault Refusal) :
    andThen (readPulse i s f) g = readPulse i s fun w => andThen (f w) g := by
  unfold readPulse
  split <;> rfl

theorem execTickDecode_mapClock (s : State) :
    execTickDecode (s.mapClock p n q) = andThen (execTickDecode s) fun t => .next (t.mapClock p n q) := by
  unfold execTickDecode
  simp only [andThen_readPulse, andThen_ite]
  rfl

/-- No tick reads or writes PRESC, the synchroniser or the queue. -/
theorem runTick_mapClock (l : Bool) (s : State) :
    runTick l (s.mapClock p n q) = andThen (runTick l s) fun t => .next (t.mapClock p n q) := by
  have hst := s.mapClock_st p n q
  cases h : s.st with
  | idle =>
    rw [runTick_idle h, runTick_idle (hst.trans h)]
    rfl
  | startLow =>
    rw [runTick_startLow h, runTick_startLow (hst.trans h)]
    unfold execTickStartLow
    rw [andThen_ite]
    rfl
  | release =>
    rw [runTick_release h, runTick_release (hst.trans h)]
    rfl
  | wait =>
    rw [runTick_wait h, runTick_wait (hst.trans h)]
    exact execTickWait_mapClock p n q { s with dqS := l }
  | decode =>
    rw [runTick_decode h, runTick_decode (hst.trans h)]
    exact execTickDecode_mapClock p n q s
  | finish =>
    rw [runTick_finish h, runTick_finish (hst.trans h)]
    unfold execTickFinish
    rw [andThen_ite]
    rfl
  | illegal6 =>
    rw [runTick_illegal (.inl h), runTick_illegal (.inl (hst.trans h))]
    rfl
  | illegal7 =>
    rw [runTick_illegal (.inr h), runTick_illegal (.inr (hst.trans h))]
    rfl

end Tick

/-! ## No event reads or writes the queue -/

/-- The state with another queue (entry 1). -/
def State.withQueue (q : List Event) (s : State) : State := { s with inbox := q }

@[simp] theorem acceptsStart_withQueue (d : Word) (q : List Event) (s : State) :
    acceptsStart d (s.withQueue q) = acceptsStart d s := rfl

theorem writeTimeout_withQueue (d : Word) (q : List Event) (s : State) :
    writeTimeout d (s.withQueue q) = (writeTimeout d s).withQueue q := by
  by_cases h : s.st = .idle <;> simp [writeTimeout, State.withQueue, h]

theorem writeStartLow_withQueue (d : Word) (q : List Event) (s : State) :
    writeStartLow d (s.withQueue q) = (writeStartLow d s).withQueue q := by
  by_cases h : s.st = .idle <;> simp [writeStartLow, State.withQueue, h]

section Queue
variable (q : List Event)

theorem runTick_withQueue (l : Bool) (s : State) :
    runTick l (s.withQueue q) = andThen (runTick l s) fun t => .next (t.withQueue q) :=
  runTick_mapClock id id (fun _ => q) l s

/-- A host bus operation: only the four operations with an effect of their own branch, and on `st` or WDATA. -/
theorem exec_withQueue {i : Instr} (hi : isHostOp i = true) (s : State) :
    exec i (s.withQueue q) = andThen (exec i s) fun t => .next (t.withQueue q) := by
  cases i with
  | wrCtrl d =>
    rw [exec, exec, execWrCtrl, execWrCtrl, acceptsStart_withQueue]
    split <;> rfl
  | wrStatus d =>
    rw [exec, exec, execWrStatus, execWrStatus]
    split <;> rfl
  | wrCfgTimeout d =>
    rw [exec, exec, execWrCfgTimeout, execWrCfgTimeout, writeTimeout_withQueue]
    rfl
  | wrCfgStart d =>
    rw [exec, exec, execWrCfgStart, execWrCfgStart, writeStartLow_withQueue]
    rfl
  | tickIdle | tickStartLow | tickRelease | tickWait | tickDecode | tickFinish | tickIllegal => cases hi
  | _ => rfl

theorem runTransaction_withQueue (t : TxWord) (s : State) :
    runTransaction t (s.withQueue q) = andThen (runTransaction t s) fun u => .next (u.withQueue q) :=
  exec_withQueue q (isHostOp_decodeBus t) s

theorem runAccess_withQueue (a : Access) (s : State) :
    runAccess a (s.withQueue q) = andThen (runAccess a s) fun t => .next (t.withQueue q) := by
  unfold runAccess
  split
  · exact runTransaction_withQueue q _ s
  · rfl

theorem prescale_withQueue (l : Bool) (s : State) :
    prescale l (s.withQueue q) = andThen (prescale l s) fun t => .next (t.withQueue q) := by
  by_cases h : s.presc = Config.clkPerUs - 1
  · rw [prescale_last h, prescale_last (s := s.withQueue q) h]
    exact runTick_withQueue q l { s with presc := 0 }
  · rw [prescale_inner h, prescale_inner (s := s.withQueue q) h]
    rfl

theorem clockEdge_withQueue (dq accepted : Bool) (s : State) :
    clockEdge dq accepted (s.withQueue q) = andThen (clockEdge dq accepted s) fun t => .next (t.withQueue q) := by
  cases accepted with
  | true => rfl
  | false => exact prescale_withQueue q _ (clockSync dq s)

theorem runCycle_withQueue (p : Pins) (s : State) :
    runCycle p (s.withQueue q) = andThen (runCycle p s) fun t => .next (t.withQueue q) := by
  unfold runCycle
  split
  · rfl
  · split
    · exact clockEdge_withQueue q _ false s
    · rw [runTransaction_withQueue, andThen_assoc, andThen_assoc]
      congr 1
      funext u
      exact clockEdge_withQueue q _ _ u

/-- What an event does depends on no queue and leaves the queue as it is. -/
theorem perform_withQueue (e : Event) (s : State) :
    perform e (s.withQueue q) = andThen (perform e s) fun t => .next (t.withQueue q) := by
  cases e with
  | host t => exact runTransaction_withQueue q t s
  | access a => exact runAccess_withQueue q a s
  | tick l => exact runTick_withQueue q l s
  | reset => rfl
  | cycle p => exact runCycle_withQueue q p s

end Queue

/-! ## The step over the queue -/

/-- A step takes the oldest queued event. -/
theorem step_queued {s : State} {e : Event} {rest : List Event} (h : s.inbox = e :: rest) :
    step s = perform e (s.withQueue rest) := by
  simp [step, nextEvent, State.withQueue, h]

/-- With nothing queued a step draws the event. -/
theorem step_unqueued {s : State} (h : s.inbox = []) :
    step s = perform (Config.environment s.draws) { s with draws := s.draws + 1 } := by
  simp [step, nextEvent, h]

/-- Steps over a queue that begins with `es` are the run of `es`. -/
theorem coreRun_queued {es rest : List Event} {s t : State} (h : runEvents es (s.withQueue rest) = .next t) :
    Host.Core.run core es.length (s.withQueue (es ++ rest)) = .next t := by
  induction es generalizing s with
  | nil => exact h
  | cons e es ih =>
    obtain ⟨_, he, hes⟩ := andThen_eq_next.1 h
    rw [perform_withQueue] at he
    obtain ⟨v, hv, hu⟩ := andThen_eq_next.1 he
    cases hu
    have hstep : core.step (s.withQueue (e :: es ++ rest)) = .next (v.withQueue (es ++ rest)) := by
      have hq : perform e (s.withQueue (es ++ rest)) = .next (v.withQueue (es ++ rest)) := by
        rw [perform_withQueue, hv, andThen_next]
      exact (step_queued rfl).trans hq
    exact (run_succ hstep).trans (ih hes)

/-! ## The clock cycle as a transaction and a tick -/

/-- Equal but for PRESC and the synchroniser, the two pieces that only a clock edge moves. -/
def agreeButClock (u v : State) : Prop := u = { v with presc := u.presc, sync := u.sync }

/-- A tick commutes with the clock edge's change of PRESC and the synchroniser. -/
theorem runTick_of_clocked {l : Bool} {s u : State} {p n : Nat}
    (h : runTick l { s with presc := p, sync := n } = .next u) :
    ∃ v, runTick l s = .next v ∧ agreeButClock u v := by
  have hm := runTick_mapClock (fun _ => p) (fun _ => n) id l s
  obtain ⟨v, hv, hu⟩ := andThen_eq_next.1 (hm.symm.trans h)
  cases hu
  exact ⟨v, hv, rfl⟩

/-- R140: the edge of a cycle without an accepted START has its one tick at PRESC's last value. -/
theorem clockEdge_tick {dq : Bool} {s u : State} (hp : s.presc = Config.clkPerUs - 1)
    (h : clockEdge dq false s = .next u) : ∃ l v, runTick l s = .next v ∧ agreeButClock u v := by
  rw [clockEdge_idle, prescale_last (s := clockSync dq s) hp] at h
  exact ⟨_, runTick_of_clocked h⟩

/-- R10, R140: an edge at another value of PRESC, or of the cycle that accepted a START, has no tick. -/
theorem clockEdge_no_tick {dq accepted : Bool} {s u : State}
    (hp : s.presc ≠ Config.clkPerUs - 1 ∨ accepted = true) (h : clockEdge dq accepted s = .next u) :
    agreeButClock u s := by
  cases accepted with
  | true =>
    cases h
    rfl
  | false =>
    have hp : s.presc ≠ Config.clkPerUs - 1 := hp.resolve_right Bool.false_ne_true
    rw [clockEdge_idle, prescale_inner (s := clockSync dq s) hp] at h
    cases h
    rfl

theorem isAcceptedStart_iff (t : TxWord) (s : State) :
    isAcceptedStart t s = true ↔ ∃ d, decodeBus t = .wrCtrl d ∧ d.getLsbD 0 = true ∧ s.st = .idle := by
  unfold isAcceptedStart
  split
  · rename_i d hd
    simp [hd, acceptsStart_iff]
  · rename_i hne
    simp only [Bool.false_eq_true, false_iff]
    rintro ⟨d, hd, -⟩
    exact hne d hd

/-- Only an accepted START writes PRESC (R103). -/
theorem runTransaction_presc {t : TxWord} {s u : State} (h : runTransaction t s = .next u)
    (ha : isAcceptedStart t s = false) : u.presc = s.presc := by
  cases runTransaction_effect h with
  | start d hi hd =>
    rw [(isAcceptedStart_iff t s).2 ⟨d, hi, (acceptsStart_iff d s).1 hd⟩] at ha
    cases ha
  | _ => rfl

/-- The transaction presented in the cycle is an accepted START (R102). -/
def cycleAcceptsStart (p : Pins) (s : State) : Prop :=
  ∃ t d, p.req = some t ∧ decodeBus t = .wrCtrl d ∧ d.getLsbD 0 = true ∧ s.st = .idle

theorem cycleAcceptsStart_of_none {p : Pins} (s : State) (hq : p.req = none) : ¬ cycleAcceptsStart p s := by
  rintro ⟨t, d, ht, -⟩
  rw [hq] at ht
  cases ht

theorem cycleAcceptsStart_of_some {p : Pins} (s : State) {t : TxWord} (hq : p.req = some t) :
    cycleAcceptsStart p s ↔ isAcceptedStart t s = true := by
  simp [cycleAcceptsStart, isAcceptedStart_iff, hq]

/-- A cycle without reset: the presented transaction is run, then the clock's edge, with PRESC still at its value
from before the cycle unless the cycle accepted a START. -/
theorem runCycle_eq_next {p : Pins} {s u : State} (hr : p.rstN = true) (h : runCycle p s = .next u) :
    ∃ w dq accepted, runEvents (p.req.toList.map .host) s = .next w ∧ clockEdge dq accepted w = .next u ∧
      (accepted = true ↔ cycleAcceptsStart p s) ∧ (accepted = false → w.presc = s.presc) := by
  rw [runCycle, if_neg (by simp [hr])] at h
  cases hq : p.req with
  | none =>
    rw [hq] at h
    exact ⟨s, _, false, rfl, h, by simp [cycleAcceptsStart_of_none s hq], fun _ => rfl⟩
  | some t =>
    rw [hq] at h
    obtain ⟨w, hw, he⟩ := andThen_eq_next.1 h
    have ht : runEvents [.host t] s = .next w := andThen_eq_next.2 ⟨w, hw, rfl⟩
    exact ⟨w, _, _, ht, he, (cycleAcceptsStart_of_some s hq).symm, runTransaction_presc hw⟩

/-- R140: the cycle with a tick. -/
theorem runCycle_tick {p : Pins} {s u : State} (hr : p.rstN = true) (hp : s.presc = Config.clkPerUs - 1)
    (hs : ¬ cycleAcceptsStart p s) (h : runCycle p s = .next u) :
    ∃ l v, runEvents (p.req.toList.map .host ++ [.tick l]) s = .next v ∧ agreeButClock u v := by
  obtain ⟨w, dq, accepted, hw, he, ha, hpresc⟩ := runCycle_eq_next hr h
  have hf : accepted = false := Bool.eq_false_iff.2 fun hc => hs (ha.1 hc)
  rw [hf] at he
  obtain ⟨l, v, hv, hu⟩ := clockEdge_tick ((hpresc hf).trans hp) he
  exact ⟨l, v, by simp [runEvents_append, hw, perform, hv], hu⟩

/-- R140: the cycle without a tick. -/
theorem runCycle_no_tick {p : Pins} {s u : State} (hr : p.rstN = true)
    (hp : s.presc ≠ Config.clkPerUs - 1 ∨ cycleAcceptsStart p s) (h : runCycle p s = .next u) :
    ∃ v, runEvents (p.req.toList.map .host) s = .next v ∧ agreeButClock u v := by
  obtain ⟨w, dq, accepted, hw, he, ha, hpresc⟩ := runCycle_eq_next hr h
  refine ⟨w, hw, clockEdge_no_tick ?_ he⟩
  cases accepted with
  | true => exact .inr rfl
  | false => exact .inl (hpresc rfl ▸ hp.resolve_right fun hc => Bool.false_ne_true (ha.2 hc))

/-! ## The scope obligations -/

/-- Settles O5, by induction on the events: none of them reads or writes the queue (`perform_withQueue`). -/
theorem queuedEventsRunInOrder : Obligations.QueuedEventsRunInOrder :=
  fun _ _ _ _ h => coreRun_queued h

/-- Settles O54, by the three kinds of cycle: reset, with a tick, without one. -/
theorem cycleIsTransactionThenTick : Obligations.CycleIsTransactionThenTick := by
  intro p s u h accepts
  cases hr : p.rstN with
  | false =>
    rw [runCycle, if_pos hr] at h
    cases h
    exact ⟨[.reset], _, rfl, rfl, fun _ => rfl, nofun, nofun⟩
  | true =>
    by_cases ht : s.presc = Config.clkPerUs - 1 ∧ ¬ accepts
    · obtain ⟨hp, hs⟩ := ht
      obtain ⟨l, v, hv, hu⟩ := runCycle_tick hr hp hs h
      exact ⟨_, v, hv, hu, nofun, fun _ _ _ => ⟨l, rfl⟩,
        fun _ hn => absurd (hn.resolve_left (not_not_intro hp)) hs⟩
    · have hn : s.presc ≠ Config.clkPerUs - 1 ∨ accepts := by tauto
      obtain ⟨v, hv, hu⟩ := runCycle_no_tick hr hn h
      exact ⟨_, v, hv, hu, nofun, fun _ hp hs => absurd ⟨hp, hs⟩ ht, fun _ _ => rfl⟩

/-- Settles O2: `step_queued`, with the tick's sample taken in WAIT only. -/
theorem stepRunsTheDecodedOperation : Obligations.StepRunsTheDecodedOperation := by
  refine ⟨fun s t rest h => step_queued h, fun s l rest h => ⟨fun hw => ?_, fun hw => ?_⟩⟩
  · have hs : sampleLine l (s.withQueue rest) = { s with inbox := rest, dqS := l } := sampleLine_of_wait hw
    rw [step_queued h, ← hs]
    rfl
  · have hs : sampleLine l (s.withQueue rest) = { s with inbox := rest } := sampleLine_of_not_wait hw
    rw [step_queued h, ← hs]
    rfl

/-- Settles O3: `step_queued` for each kind of event, and the draw of `step_unqueued`. -/
theorem stepPerformsTheOtherEvents : Obligations.StepPerformsTheOtherEvents :=
  ⟨fun _ _ h => step_queued h, fun _ _ _ h => step_queued h, fun _ _ _ h => step_queued h,
    fun _ h => step_unqueued h⟩

end Sys2Proof.Machine
end

section
/-! PROOFS of the statements about the state (10_state.md): the reset values, the line outputs and the fault of an
unwritten pulse; what completes an acquisition, and so who writes the flags and the Reading; the invariant, kept by
every transaction, tick, cycle and step. -/

namespace Sys2Proof.Machine

/-! ## Reset, the line, the unwritten pulse -/

@[simp] theorem isWritten_replicate_none (i : Nat) : isWritten (Vector.replicate 80 none) i = false := by
  by_cases h : i < 80 <;> simp [isWritten, h]

/-- The data and value registers over the frame of all zeros (R35 to R38). -/
theorem resultWords_zero :
    data0Word 0 = 0 ∧ data1Word 0 = 0 ∧ humidityWord 0 = 0 ∧ temperatureWord 0 = 0 := by decide

/-- A reset from reset changes nothing. -/
theorem resetBlock_reset : resetBlock State.reset = State.reset := rfl

/-- Settles O1: both kinds of reset are `resetBlock`, whose fields compute. -/
theorem resetLeavesTheTableValues : Obligations.ResetLeavesTheTableValues := by
  intro t ht
  obtain ⟨s, rfl⟩ : ∃ s, t = resetBlock s := by
    obtain rfl | ⟨s, hs⟩ := ht
    · exact ⟨State.reset, resetBlock_reset.symm⟩
    · cases hs
      exact ⟨s, rfl⟩
  exact ⟨rfl, rfl, rfl, rfl, fun i _ => isWritten_replicate_none i, rfl, rfl, rfl, rfl, rfl, rfl, rfl, rfl, rfl, rfl,
    rfl, rfl, resultWords_zero⟩

/-- Settles O27, state by state. -/
theorem lineOutputsFollowTheState : Obligations.LineOutputsFollowTheState := by
  refine fun s => ⟨dqOe_iff s, dqO_iff s, fun ext => ?_⟩
  unfold lineLevel dqOe dqO
  cases s.st <;> rfl

/-- Settles O38: the marker is read before the data pulse, and each read faults on an unwritten entry. -/
theorem unwrittenPulseReadFaults : Obligations.UnwrittenPulseReadFaults := by
  refine fun s => ⟨fun hm => ?_, fun m hm hd => ?_⟩
  · exact readPulse_unwritten hm _
  · exact (readPulse_written hm _).trans (readPulse_unwritten hd _)

/-! ## What completes an acquisition -/

/-- The code and bit index that a failing tick records: a bit index only with the two bit failures (R31, R231). -/
def legalFailure (c : FailCode) (b : BitVec 6) : Prop :=
  c ≠ .none ∧ (b ≠ 0 → c = .bitMarker ∨ c = .bitData)

/-- The handshake's failure codes, by phase (R166), come without a bit index. -/
theorem legalFailure_handshake (p q : Prop) [Decidable p] [Decidable q] :
    legalFailure (if p then .hsResponse else if q then .hsPullup else .hsStream) 0 := by
  refine ⟨?_, fun hb => absurd rfl hb⟩
  split_ifs <;> nofun

theorem legalFailure_bitMarker (b : BitVec 6) : legalFailure .bitMarker b := ⟨nofun, fun _ => .inl rfl⟩

theorem legalFailure_bitData (b : BitVec 6) : legalFailure .bitData b := ⟨nofun, fun _ => .inr rfl⟩

theorem legalFailure_checksum : legalFailure .checksum 0 := ⟨nofun, fun hb => absurd rfl hb⟩

/-- What a tick can do with the Reading and the flags: nothing, with BUSY kept, while it runs on; leave an illegal
state, with nothing else changed; or complete the acquisition, in FINISH with `complete_ok`, or in WAIT, DECODE or
FINISH with `complete_fail`. -/
inductive TickCompletion (s : State) : State → Prop where
  | running {t : TickState} {c : BitVec 18} {p : BitVec 7} {k : BitVec 6} {pw : Vector (Option Width) 80} {v : Frame}
      {l : Bool} : busy { s with st := t } = busy s →
      TickCompletion s { s with st := t, cnt := c, ph := p, k := k, pw := pw, sr := v, dqS := l }
  | illegal : (s.st = .illegal6 ∨ s.st = .illegal7) → TickCompletion s { s with st := .idle }
  | success : s.st = .finish → TickCompletion s (completeOk s)
  | failure (c : FailCode) (b : BitVec 6) (l : Bool) : (s.st = .wait ∨ s.st = .decode ∨ s.st = .finish) →
      legalFailure c b → TickCompletion s (completeFail c b { s with dqS := l })

/-- A tick from one running state to another keeps BUSY. -/
theorem busy_eq_of_running {s u : State} (hs : s.st ≠ .idle) (hu : u.st ≠ .idle) : busy u = busy s :=
  ((busy_iff u).2 hu).trans ((busy_iff s).2 hs).symm

/-- The end of a capture phase does not leave the running acquisition. -/
theorem advanceCapture_st_ne_idle (c : BitVec 18) {s : State} (h : s.st ≠ .idle) :
    (advanceCapture c s).st ≠ .idle := by
  unfold advanceCapture
  split
  · exact nofun
  · exact h

/-- The end of a capture phase completes nothing. -/
theorem tickCompletion_advanceCapture (c : BitVec 18) (l : Bool) (pw : Vector (Option Width) 80) {s : State}
    (h : s.st ≠ .idle) : TickCompletion s (advanceCapture c { s with dqS := l, pw := pw }) := by
  have hb := busy_eq_of_running h (advanceCapture_st_ne_idle c (s := { s with dqS := l, pw := pw }) h)
  rw [advanceCapture_frame] at hb ⊢
  exact .running hb

theorem TickEffect.completion {l : Bool} {s u : State} (h : TickEffect l s u) : TickCompletion s u := by
  cases h with
  | idle hst => exact .running rfl
  | lowCount hst _ => exact .running rfl
  | lowEnd hst _ => exact .running (busy_eq_of_running (by simp [hst]) nofun)
  | release hst => exact .running (busy_eq_of_running (by simp [hst]) nofun)
  | waitCount hst _ _ => exact .running rfl
  | handshake hst _ _ => exact .running rfl
  | handshakeFail hst _ _ _ => exact .failure _ 0 l (.inl hst) (legalFailure_handshake _ _)
  | recordWidth i hi hst _ _ => exact tickCompletion_advanceCapture 1 l _ (by simp [hst])
  | recordSentinel i hi hst _ _ _ => exact tickCompletion_advanceCapture 0 l _ (by simp [hst])
  | markerFail hst _ => exact .failure .bitMarker s.k s.dqS (.inr (.inl hst)) (legalFailure_bitMarker _)
  | dataFail m hst _ _ _ => exact .failure .bitData s.k s.dqS (.inr (.inl hst)) (legalFailure_bitData _)
  | bitNext m d hst _ _ _ _ _ => exact .running rfl
  | bitLast m d hst _ _ _ _ _ => exact .running (busy_eq_of_running (by simp [hst]) nofun)
  | good hst _ => exact .success hst
  | bad hst _ => exact .failure .checksum 0 s.dqS (.inr (.inr hst)) legalFailure_checksum
  | illegal hst => exact .illegal hst

/-- No transaction writes the Reading (R39). -/
theorem HostEffect.reading {i : Instr} {s u : State} (h : HostEffect i s u) :
    u.lf = s.lf ∧ u.valid = s.valid := by
  cases h <;> exact ⟨rfl, rfl⟩

/-- An access is a transaction, or nothing. -/
theorem runAccess_cases (a : Access) (s : State) :
    (∃ t, runAccess a s = runTransaction t s) ∨ runAccess a s = .next s := by
  unfold runAccess
  split
  · exact .inl ⟨_, rfl⟩
  · exact .inr rfl

/-- Settles O52: transactions leave the Reading (`HostEffect.reading`), and a tick writes it only when it completes
(`TickEffect.completion`). -/
theorem readingChangesOnlyAtCompletion : Obligations.ReadingChangesOnlyAtCompletion := by
  intro e s u he h
  obtain ⟨t, rfl⟩ | ⟨l, rfl⟩ | ⟨a, rfl⟩ := he
  · exact .inl (runTransaction_effect h).reading
  · cases (runTick_effect h).completion with
    | running _ => exact .inl ⟨rfl, rfl⟩
    | illegal _ => exact .inl ⟨rfl, rfl⟩
    | success hst => exact .inr ⟨⟨l, rfl⟩, by simp [hst], rfl, rfl, .inl ⟨rfl, rfl, hst⟩⟩
    | failure c b l' hst _ =>
      have hrun : s.st ≠ .idle := fun h0 => by simp [h0] at hst
      exact .inr ⟨⟨l, rfl⟩, hrun, rfl, rfl, .inr ⟨rfl, rfl⟩⟩
  · change runAccess a s = .next u at h
    obtain ⟨t, ht⟩ | hn := runAccess_cases a s
    · exact .inl (runTransaction_effect (ht.symm.trans h)).reading
    · cases hn.symm.trans h
      exact .inl ⟨rfl, rfl⟩

/-- Settles O51: the rows of R48 are the effects of a transaction (`HostEffect`) and the completions of a tick
(`TickCompletion`). -/
theorem onlyTheTabledEventsWriteFlags : Obligations.OnlyTheTabledEventsWriteFlags := by
  intro e s u he hs h
  obtain ⟨t, rfl⟩ | ⟨l, rfl⟩ := he
  · cases runTransaction_effect h with
    | answer v e => exact .inl ⟨rfl, rfl, rfl, rfl, rfl, rfl⟩
    | start d hi ha =>
      obtain ⟨hd, hst⟩ := (acceptsStart_iff d s).1 ha
      exact .inr (.inl ⟨⟨t, d, rfl, hi, hd⟩, (busy_eq_false_iff s).2 hst, rfl, rfl, rfl, rfl, rfl, rfl⟩)
    | clear d hi hd => exact .inr (.inr (.inl ⟨⟨t, d, rfl, hi, hd⟩, rfl, rfl, rfl, rfl, rfl, rfl⟩))
    | timeout d _ _ => exact .inl ⟨rfl, rfl, rfl, rfl, rfl, rfl⟩
    | startLow d _ _ => exact .inl ⟨rfl, rfl, rfl, rfl, rfl, rfl⟩
  · cases (runTick_effect h).completion with
    | running hbusy => exact .inl ⟨hbusy, rfl, rfl, rfl, rfl, rfl⟩
    | illegal hst => exact absurd hst (not_or.2 hs.legalState)
    | success hst => exact .inr (.inr (.inr (.inl ⟨⟨l, rfl⟩, hst, rfl, rfl, rfl, rfl, rfl, rfl⟩)))
    | failure c b l' hst hf => exact .inr (.inr (.inr (.inr ⟨⟨l, rfl⟩, hst, rfl, rfl, rfl, rfl, hf⟩)))

/-! ## The invariant at reset and over transactions -/

/-- Settles O46: reset is idle, so the engine's own clauses are void, and the others compute. -/
theorem invariantHoldsAtReset : Obligations.InvariantHoldsAtReset where
  legalState := by decide
  phaseRange := by decide
  bitRange := by decide
  budgetLegal := by decide
  startLowLegal := by decide
  cntStartLow := nofun
  cntWait := nofun
  captured := nofun
  capturedAll := by simp
  srCleared := by simp
  srDecoding := nofun
  srDecoded := nofun
  lfGood := by decide
  busyFlags := by decide
  okFlags := nofun
  errFlags := fun he => absurd rfl he
  errBitRange := by decide
  errBitZero := fun _ _ => rfl
  prescRange := Nat.succ_pos _
  syncRange := Nat.two_pow_pos _

theorem inv_resetBlock (s : State) : Inv (resetBlock s) := { invariantHoldsAtReset with }

/-- While idle the configuration is free within its limits (R85): what depends on it concerns running states. -/
theorem Inv.configure {s : State} (h : Inv s) (hi : s.st = .idle) {T : BitVec 16} {N : BitVec 8}
    (hT : 2 ≤ T.toNat) (hN : 1 ≤ N.toNat) : Inv { s with timeoutUs := T, startLowMs := N } :=
  { h with
    budgetLegal := hT
    startLowLegal := hN
    cntStartLow := by simp [hi]
    cntWait := by simp [hi]
    captured := by simp [hi]
    capturedAll := by simp [hi] }

/-- A START clears `cnt`, SR and the flags (R103), and that is all the invariant asks of START_LOW. -/
theorem Inv.startAcquisition {s : State} (h : Inv s) : Inv (startAcquisition s) :=
  { h with
    legalState := ⟨nofun, nofun⟩
    cntStartLow := fun _ => Nat.mul_pos h.startLowLegal (by decide)
    cntWait := nofun
    captured := nofun
    capturedAll := by simp
    srCleared := fun _ => rfl
    srDecoding := nofun
    srDecoded := nofun
    busyFlags := fun _ => ⟨rfl, rfl, rfl, rfl⟩
    okFlags := nofun
    errFlags := fun he => absurd rfl he
    errBitRange := Nat.zero_le _
    errBitZero := fun _ _ => rfl
    prescRange := Nat.succ_pos _ }

/-- While busy, DONE is 0 already (R268); while idle it is free. -/
theorem Inv.clearDone {s : State} (h : Inv s) : Inv (clearDone s) :=
  { h with busyFlags := fun hb => ⟨rfl, (h.busyFlags hb).2⟩ }

/-- The bus answer is no concern of the invariant. -/
theorem Inv.answer {s : State} (h : Inv s) (v : Word) (e : Bool) : Inv { s with rdata := v, busErr := e } :=
  { h with }

theorem HostEffect.inv {i : Instr} {s u : State} (h : HostEffect i s u) (hs : Inv s) : Inv u := by
  cases h with
  | answer v e => exact hs.answer v e
  | start d _ _ => exact hs.startAcquisition.answer 0 false
  | clear d _ _ => exact hs.clearDone.answer 0 false
  | timeout d _ hi =>
    have hT : 2 ≤ (timeoutOperand d).toNat := timeoutOperand_toNat d ▸ Nat.le_max_left ..
    exact (hs.configure hi hT hs.startLowLegal).answer 0 false
  | startLow d _ hi =>
    have hN : 1 ≤ (startLowOperand d).toNat := startLowOperand_toNat d ▸ Nat.le_max_left ..
    exact (hs.configure hi hs.budgetLegal hN).answer 0 false

/-! ## The invariant over ticks -/

/-- The line sample is no concern of the invariant. -/
theorem Inv.sample {s : State} (h : Inv s) (l : Bool) : Inv { s with dqS := l } := { h with }

/-- The flags of a running acquisition (R268). -/
theorem Inv.runningFlags {s : State} (h : Inv s) (hb : s.st ≠ .idle) :
    s.done = false ∧ s.ok = false ∧ s.err = .none ∧ s.errBit = 0 :=
  h.busyFlags ((busy_iff s).2 hb)

/-- In IDLE the clauses about a running acquisition are void. -/
theorem Inv.toIdle {s : State} (h : Inv s) : Inv { s with st := .idle } :=
  { h with
    legalState := ⟨nofun, nofun⟩
    cntStartLow := nofun
    cntWait := nofun
    captured := nofun
    capturedAll := by simp
    srCleared := by simp
    srDecoding := nofun
    srDecoded := nofun
    busyFlags := nofun }

theorem Inv.completeFail {s : State} (h : Inv s) {c : FailCode} {b : BitVec 6} (hf : legalFailure c b)
    (hb : b.toNat ≤ 39) : Inv (completeFail c b s) :=
  { h.toIdle with
    busyFlags := nofun
    okFlags := nofun
    errFlags := fun _ => rfl
    errBitRange := hb
    errBitZero := fun hm hd => not_imp_comm.1 hf.2 (not_or.2 ⟨hm, hd⟩) }

theorem Inv.completeOk {s : State} (h : Inv s) (hg : checksumGood s.sr = true) : Inv (completeOk s) :=
  { h.toIdle with
    lfGood := hg
    busyFlags := nofun
    okFlags := fun _ => ⟨rfl, rfl⟩
    errFlags := fun he => absurd rfl he
    errBitRange := Nat.zero_le _
    errBitZero := fun _ _ => rfl }

/-- R142: the LOW drive counts, and stops before the count reaches its bound. -/
theorem Inv.lowCount {s : State} (h : Inv s) (hst : s.st = .startLow)
    (hc : s.cnt.toNat + 1 ≠ s.startLowMs.toNat * 1000) : Inv { s with cnt := s.cnt + 1 } := by
  have hlt := h.cntStartLow hst
  have hN := s.startLowMs.isLt
  have hsucc : (s.cnt + 1).toNat = s.cnt.toNat + 1 := cnt_succ_toNat (by omega)
  have hbound : (s.cnt + 1).toNat < s.startLowMs.toNat * 1000 := by omega
  exact { h with
    cntStartLow := fun _ => hbound
    cntWait := by simp [hst] }

/-- R142: SR is still clear and the flags are still 0 when the HIGH drive begins. -/
theorem Inv.lowEnd {s : State} (h : Inv s) (hst : s.st = .startLow) :
    Inv { s with st := .release, cnt := 0 } :=
  { h with
    legalState := ⟨nofun, nofun⟩
    cntStartLow := nofun
    cntWait := nofun
    captured := nofun
    capturedAll := by simp
    srCleared := fun _ => h.srCleared (.inl hst)
    srDecoding := nofun
    srDecoded := nofun
    busyFlags := fun _ => h.runningFlags (by simp [hst]) }

/-- R143: phase 0 of WAIT begins with nothing captured. -/
theorem Inv.release {s : State} (h : Inv s) (hst : s.st = .release) :
    Inv { s with st := .wait, ph := 0, cnt := 0 } :=
  { h with
    legalState := ⟨nofun, nofun⟩
    phaseRange := Nat.zero_le _
    cntStartLow := nofun
    cntWait := fun _ => Nat.lt_of_lt_of_le Nat.two_pos h.budgetLegal
    captured := fun _ _ hi => absurd hi (Nat.not_lt_zero _)
    capturedAll := by simp
    srCleared := fun _ => h.srCleared (.inr (.inl hst))
    srDecoding := nofun
    srDecoded := nofun
    busyFlags := fun _ => h.runningFlags (by simp [hst]) }

/-- R162: a wait counts below its budget. -/
theorem Inv.waitCount {s : State} (h : Inv s) (hst : s.st = .wait) (hc : s.cnt.toNat + 1 < s.timeoutUs.toNat) :
    Inv { s with cnt := s.cnt + 1 } := by
  have hT := s.timeoutUs.isLt
  have hsucc : (s.cnt + 1).toNat = s.cnt.toNat + 1 := cnt_succ_toNat (by omega)
  exact { h with
    cntStartLow := by simp [hst]
    cntWait := fun _ => hsucc ▸ hc }

/-- The next phase of WAIT: `c` is within the budget, and PW is written as far as the next phase asks. -/
theorem Inv.nextPhase {s : State} (h : Inv s) (hst : s.st = .wait) (hph : s.ph.toNat < 82) {c : BitVec 18}
    (hc : c.toNat < s.timeoutUs.toNat)
    (hpw : ∀ i < s.ph.toNat + 1 - 3, pulseLegal s.timeoutUs.toNat s.pw i = true) :
    Inv { s with ph := s.ph + 1, cnt := c } := by
  have hsucc := ph_succ_toNat hph.le
  exact { h with
    phaseRange := hsucc ▸ hph
    cntStartLow := by simp [hst]
    cntWait := fun _ => hc
    captured := fun _ => hsucc ▸ hpw }

/-- R169: DECODE begins with PW written in full, SR clear and no bit read yet. -/
theorem Inv.enterDecode {s : State} (h : Inv s) (hst : s.st = .wait)
    (hpw : ∀ i < 80, pulseLegal s.timeoutUs.toNat s.pw i = true) : Inv { s with st := .decode, k := 0 } :=
  { h with
    legalState := ⟨nofun, nofun⟩
    bitRange := Nat.zero_le _
    cntStartLow := nofun
    cntWait := nofun
    captured := nofun
    capturedAll := fun _ => hpw
    srCleared := by simp
    srDecoding := fun _ => ⟨h.srCleared (.inr (.inr hst)), fun _ hi => absurd hi (Nat.not_lt_zero _)⟩
    srDecoded := nofun
    busyFlags := fun _ => h.runningFlags (by simp [hst]) }

/-- R167 to R169: the end of a capture phase, whose own pulse PW holds already. -/
theorem Inv.endPhase {s : State} (h : Inv s) (hst : s.st = .wait) {c : BitVec 18}
    (hc : c.toNat < s.timeoutUs.toNat)
    (hpw : ∀ i < s.ph.toNat + 1 - 3, pulseLegal s.timeoutUs.toNat s.pw i = true) : Inv (advanceCapture c s) := by
  by_cases hlast : s.ph.toNat = 82
  · rw [advanceCapture_last hlast]
    exact h.enterDecode hst (by simpa [hlast] using hpw)
  · have hlt := Nat.lt_of_le_of_ne h.phaseRange hlast
    rw [advanceCapture_inner hlt]
    exact h.nextPhase hst hlt hc hpw

/-- A recorded entry is legal, and the others stay as they were. -/
theorem pulseLegal_set {T : Nat} {pw : Vector (Option Width) 80} {i j : Nat} {w : Width} (hi : i < 80)
    (hw : w = sentinel ∨ w.toNat < T) (hj : j ≠ i → pulseLegal T pw j = true) :
    pulseLegal T (pw.set i (some w) hi) j = true := by
  by_cases e : i = j
  · simpa [pulseLegal, isWritten_set, pulseAt_set, e] using hw
  · simpa [pulseLegal, isWritten_set, pulseAt_set, e] using hj (Ne.symm e)

/-- In capture PW is not yet read, so an entry may be written with a legal width. -/
theorem Inv.writePulse {s : State} (h : Inv s) (hst : s.st = .wait) {i : Nat} (hi : i < 80) {w : Width}
    (hw : w = sentinel ∨ w.toNat < s.timeoutUs.toNat) : Inv { s with pw := s.pw.set i (some w) hi } :=
  { h with
    captured := fun _ j hj => pulseLegal_set hi hw fun _ => h.captured hst j hj
    capturedAll := by simp [hst]
    srDecoding := by simp [hst]
    srDecoded := by simp [hst] }

/-- R167, R168: recording pulse `i` and ending its phase. -/
theorem Inv.recordPulse {s : State} (h : Inv s) (hst : s.st = .wait) {i : Nat} (hi : i < 80)
    (hph : s.ph.toNat = i + 3) {w : Width} (hw : w = sentinel ∨ w.toNat < s.timeoutUs.toNat) {c : BitVec 18}
    (hc : c.toNat < s.timeoutUs.toNat) :
    Inv (advanceCapture c { s with pw := s.pw.set i (some w) hi }) := by
  refine (h.writePulse hst hi hw).endPhase hst hc fun j hj => pulseLegal_set hi hw fun hne => ?_
  change j < s.ph.toNat + 1 - 3 at hj
  exact h.captured hst j (by omega)

/-- The value read from a written entry. -/
theorem pulseAt_of_getElem? {pw : Vector (Option Width) 80} {i : Nat} {w : Width} (h : pw[i]? = some (some w)) :
    pulseAt pw i = w := by
  simp [pulseAt, h]

/-- `v` holds the first `n` bits that the pulses spell, and none of these pulses is a sentinel: what the invariant
says of SR in DECODE and FINISH. -/
def readsBits (pw : Vector (Option Width) 80) (n : Nat) (v : Frame) : Prop :=
  v = decodedBits pw n ∧ ∀ i < 2 * n, pulseAt pw i ≠ sentinel

/-- R191, R193: a decode tick without a sentinel adds bit `k`. -/
theorem Inv.decodeBit {s : State} (h : Inv s) (hst : s.st = .decode) {m d : Width}
    (hm : s.pw[2 * s.k.toNat]? = some (some m)) (hm' : m ≠ sentinel)
    (hd : s.pw[2 * s.k.toNat + 1]? = some (some d)) (hd' : d ≠ sentinel) :
    readsBits s.pw (s.k.toNat + 1) (shiftIn s.sr (bitOf m d)) := by
  obtain ⟨hsr, hno⟩ := h.srDecoding hst
  refine ⟨?_, fun i hi => ?_⟩
  · rw [decodedBits, ← hsr, pulseAt_of_getElem? hm, pulseAt_of_getElem? hd]
  · have hcases : i < 2 * s.k.toNat ∨ i = 2 * s.k.toNat ∨ i = 2 * s.k.toNat + 1 := by omega
    obtain hlt | rfl | rfl := hcases
    · exact hno i hlt
    · rwa [pulseAt_of_getElem? hm]
    · rwa [pulseAt_of_getElem? hd]

theorem k_succ_toNat {s : State} (h : s.k.toNat ≤ 39) : (s.k + 1).toNat = s.k.toNat + 1 := by
  rw [BitVec.toNat_add]
  simp
  omega

theorem Inv.bitNext {s : State} (h : Inv s) (hst : s.st = .decode) (hk : s.k ≠ 39#6) {v : Frame}
    (hv : readsBits s.pw (s.k.toNat + 1) v) : Inv { s with sr := v, k := s.k + 1 } := by
  have hne : s.k.toNat ≠ 39 := fun e => hk (BitVec.eq_of_toNat_eq e)
  have hsucc := k_succ_toNat h.bitRange
  exact { h with
    bitRange := hsucc ▸ Nat.lt_of_le_of_ne h.bitRange hne
    srCleared := by simp [hst]
    srDecoding := fun _ => hsucc ▸ hv
    srDecoded := by simp [hst] }

theorem Inv.bitLast {s : State} (h : Inv s) (hst : s.st = .decode) (hk : s.k = 39#6) {v : Frame}
    (hv : readsBits s.pw (s.k.toNat + 1) v) : Inv { s with sr := v, st := .finish } :=
  { h with
    legalState := ⟨nofun, nofun⟩
    cntStartLow := nofun
    cntWait := nofun
    captured := nofun
    capturedAll := fun _ => h.capturedAll (.inl hst)
    srCleared := by simp
    srDecoding := nofun
    srDecoded := fun _ => by simpa [readsBits, hk] using hv
    busyFlags := fun _ => h.runningFlags (by simp [hst]) }

/-- Every tick keeps the invariant, effect by effect. -/
theorem TickEffect.inv {l : Bool} {s u : State} (h : TickEffect l s u) (hs : Inv s) : Inv u := by
  have hT := hs.budgetLegal
  cases h with
  | idle _ => exact hs
  | lowCount hst hc => exact hs.lowCount hst hc
  | lowEnd hst _ => exact hs.lowEnd hst
  | release hst => exact hs.release hst
  | waitCount hst _ hc => exact (hs.sample l).waitCount hst hc
  | handshake hst _ hph =>
    exact (hs.sample l).nextPhase hst (Nat.lt_of_le_of_lt hph (by decide)) hT fun i hi => by
      change i < s.ph.toNat + 1 - 3 at hi
      omega
  | handshakeFail _ _ _ _ => exact (hs.sample l).completeFail (legalFailure_handshake _ _) (Nat.zero_le _)
  | recordWidth i hi hst _ hph =>
    have hc := hs.cntWait hst
    have hw : (s.cnt.setWidth 16).toNat < s.timeoutUs.toNat := by
      rw [BitVec.toNat_setWidth]
      exact Nat.lt_of_le_of_lt (Nat.mod_le _ _) hc
    exact (hs.sample l).recordPulse hst hi hph (.inr hw) hT
  | recordSentinel i hi hst _ _ hph =>
    exact (hs.sample l).recordPulse hst hi hph (.inl rfl) (Nat.lt_of_lt_of_le Nat.two_pos hT)
  | markerFail _ _ => exact hs.completeFail (legalFailure_bitMarker _) hs.bitRange
  | dataFail _ _ _ _ _ => exact hs.completeFail (legalFailure_bitData _) hs.bitRange
  | bitNext m d hst hm hm' hd hd' hk => exact hs.bitNext hst hk (hs.decodeBit hst hm hm' hd hd')
  | bitLast m d hst hm hm' hd hd' hk => exact hs.bitLast hst hk (hs.decodeBit hst hm hm' hd hd')
  | good _ hg => exact hs.completeOk hg
  | bad _ _ => exact hs.completeFail legalFailure_checksum (Nat.zero_le _)
  | illegal _ => exact hs.toIdle

/-! ## Every event from a state with the invariant answers a state with the invariant -/

/-- The outcome is no stop, and the next state has the invariant. -/
def staysSafe (o : Host.Outcome State Fault Refusal) : Prop := ∃ u, o = .next u ∧ Inv u

theorem staysSafe_next {s : State} (h : Inv s) : staysSafe (.next s) := ⟨s, rfl, h⟩

theorem staysSafe_andThen {o : Host.Outcome State Fault Refusal} {f : State → Host.Outcome State Fault Refusal}
    (ho : staysSafe o) (hf : ∀ u, Inv u → staysSafe (f u)) : staysSafe (andThen o f) := by
  obtain ⟨u, rfl, hu⟩ := ho
  exact hf u hu

/-- A WAIT tick finds its pulse register, since `ph` is at most 82. -/
theorem execTickWait_answers {s : State} (h : Inv s) : ∃ u, execTickWait s = .next u := by
  have hph := h.phaseRange
  unfold execTickWait
  by_cases hshake : s.ph.toNat ≤ 2
  · rw [phaseTimeout_handshake hshake, phaseDone_handshake hshake]
    split_ifs <;> exact ⟨_, rfl⟩
  · have hi : s.ph.toNat - 3 < 80 := by omega
    have hpulse : s.ph.toNat = s.ph.toNat - 3 + 3 := by omega
    rw [phaseTimeout_capture hi hpulse, phaseDone_capture hi hpulse]
    split_ifs <;> exact ⟨_, rfl⟩

/-- A DECODE tick reads two written pulse registers, since all of PW is written (R51, R169). -/
theorem runTick_decode_answers {s : State} (l : Bool) (h : Inv s) (hst : s.st = .decode) :
    ∃ u, runTick l s = .next u := by
  have hk := h.bitRange
  have hw : ∀ i < 80, isWritten s.pw i = true := fun i hi =>
    (Bool.and_eq_true_iff.1 (h.capturedAll (.inl hst) i hi)).1
  rw [runTick_decode_written l hst (hw _ (by omega)) (hw _ (by omega))]
  dsimp only
  split_ifs <;> exact ⟨_, rfl⟩

theorem runTick_answers {s : State} (l : Bool) (h : Inv s) : ∃ u, runTick l s = .next u := by
  cases hst : s.st with
  | idle => exact ⟨_, runTick_idle hst⟩
  | startLow =>
    rw [runTick_startLow hst, execTickStartLow]
    split <;> exact ⟨_, rfl⟩
  | release => exact ⟨_, runTick_release hst⟩
  | wait =>
    rw [runTick_wait hst]
    exact execTickWait_answers (h.sample l)
  | decode => exact runTick_decode_answers l h hst
  | finish =>
    rw [runTick_finish hst, execTickFinish]
    split <;> exact ⟨_, rfl⟩
  | illegal6 => exact absurd hst h.legalState.1
  | illegal7 => exact absurd hst h.legalState.2

theorem staysSafe_runTick (l : Bool) {s : State} (h : Inv s) : staysSafe (runTick l s) := by
  obtain ⟨u, hu⟩ := runTick_answers l h
  exact ⟨u, hu, (runTick_effect hu).inv h⟩

theorem staysSafe_runTransaction (t : TxWord) {s : State} (h : Inv s) : staysSafe (runTransaction t s) := by
  obtain ⟨u, hu, he⟩ := runTransaction_spec t s
  exact ⟨u, hu, he.inv h⟩

theorem staysSafe_runAccess (a : Access) {s : State} (h : Inv s) : staysSafe (runAccess a s) := by
  obtain ⟨t, ht⟩ | hn := runAccess_cases a s
  · exact ht ▸ staysSafe_runTransaction t h
  · exact hn ▸ staysSafe_next h

theorem Inv.clockSync {s : State} (h : Inv s) (dq : Bool) : Inv (clockSync dq s) :=
  { h with syncRange := Nat.mod_lt _ (Nat.two_pow_pos _) }

theorem Inv.setPresc {s : State} (h : Inv s) {n : Nat} (hn : n < Config.clkPerUs) : Inv { s with presc := n } :=
  { h with prescRange := hn }

/-- R140: PRESC starts again at its last value and counts below it. -/
theorem staysSafe_prescale (l : Bool) {s : State} (h : Inv s) : staysSafe (prescale l s) := by
  have hp := h.prescRange
  by_cases hlast : s.presc = Config.clkPerUs - 1
  · rw [prescale_last hlast]
    exact staysSafe_runTick l (h.setPresc (Nat.zero_lt_of_lt hp))
  · rw [prescale_inner hlast]
    exact staysSafe_next (h.setPresc (by omega))

theorem staysSafe_clockEdge (dq accepted : Bool) {s : State} (h : Inv s) :
    staysSafe (clockEdge dq accepted s) := by
  cases accepted with
  | true => exact staysSafe_next (h.clockSync dq)
  | false => exact staysSafe_prescale _ (h.clockSync dq)

theorem staysSafe_runCycle (p : Pins) {s : State} (h : Inv s) : staysSafe (runCycle p s) := by
  unfold runCycle
  split
  · exact staysSafe_next (inv_resetBlock s)
  · split
    · exact staysSafe_clockEdge _ _ h
    · exact staysSafe_andThen (staysSafe_runTransaction _ h) fun _ hu => staysSafe_clockEdge _ _ hu

theorem staysSafe_perform (e : Event) {s : State} (h : Inv s) : staysSafe (perform e s) := by
  cases e with
  | host t => exact staysSafe_runTransaction t h
  | access a => exact staysSafe_runAccess a h
  | tick l => exact staysSafe_runTick l h
  | reset => exact staysSafe_next (inv_resetBlock s)
  | cycle p => exact staysSafe_runCycle p h

/-- Taking the next event changes the environment's queue and draws only (entry 1). -/
theorem inv_nextEvent {s : State} (h : Inv s) : Inv (nextEvent s).2 := by
  unfold nextEvent
  split
  · exact { h with }
  · exact { h with }

theorem staysSafe_step {s : State} (h : Inv s) : staysSafe (step s) :=
  staysSafe_perform _ (inv_nextEvent h)

/-- Settles O47: whatever the next event is, it keeps the invariant (`staysSafe_step`). -/
theorem everyStepKeepsTheInvariant : Obligations.EveryStepKeepsTheInvariant := by
  intro s t hs ht
  obtain ⟨u, hu, hinv⟩ := staysSafe_step hs
  cases hu.symm.trans ht
  exact hinv

/-- Settles O48: no event stops, since PW holds what WAIT and DECODE ask of it (`runTick_answers`). -/
theorem noReachableStepStops : Obligations.NoReachableStepStops := by
  intro s hs
  obtain ⟨u, hu, -⟩ := staysSafe_step hs
  exact ⟨u, hu⟩

end Sys2Proof.Machine
end

section
/-! PROOFS of the statements about the register window (20_memory.md): which transactions are refused, what an
accepted read and a write from offset 16 on do, the byte lanes, the routing of addresses, and the two states that
the host cannot tell apart. -/

namespace Sys2Proof.Machine

open Sys2Proof.Statements

/-! ## Refused transactions (R62, R120) -/

/-- The instruction is one of the four BUS_ERR rows. -/
def isBusErr (i : Instr) : Bool :=
  match i with
  | .busErrSubword .. | .busErrSz11 .. | .busErrOffOdd .. | .busErrOffHalf .. => true
  | _ => false

theorem isBusErr_decodeRegister (w : Bool) (idx : BitVec 3) (d : Word) :
    isBusErr (decodeRegister w idx d) = false := by
  unfold decodeRegister
  split <;> cases w <;> rfl

theorem exec_of_isBusErr {i : Instr} (h : isBusErr i = true) (s : State) : exec i s = .next (raiseBusError s) := by
  cases i with
  | busErrSubword | busErrSz11 | busErrOffOdd | busErrOffHalf => rfl
  | _ => cases h

/-- R62 in the order in which the decoder looks at the bits of SZ and OFF (R82). -/
theorem isRefused_iff (t : TxWord) :
    isRefused t ↔ (txSz t).getLsbD 1 = false ∨ txSz t = 0b11#2 ∨ (txOff t).getLsbD 0 = true ∨
      (txOff t).getLsbD 1 = true := by
  have hsz : ∀ sz : BitVec 2, sz ≠ 0b10#2 ↔ sz.getLsbD 1 = false ∨ sz = 0b11#2 := by decide
  have hoff : ∀ off : BitVec 6, off.toNat % 4 ≠ 0 ↔ off.getLsbD 0 = true ∨ off.getLsbD 1 = true := by decide
  rw [isRefused, hsz, hoff, or_assoc]

/-- The last two lines of R82's decode order, which an accepted transaction reaches. -/
theorem decodeBus_of_accepted {t : TxWord} (h : ¬ isRefused t) :
    decodeBus t = if (txOff t).getLsbD 5 then
        (if txW t then .wrReserved (txOff t) (txWdata t) else .rdReserved (txOff t) (txWdata t))
      else decodeRegister (txW t) ((txOff t).extractLsb' 2 3) (txWdata t) := by
  simp only [isRefused_iff, not_or] at h
  obtain ⟨hw, h11, h0, h1⟩ := h
  rw [decodeBus, decodeFields, if_neg hw, if_neg h11, if_neg h0, if_neg h1]

/-- The decoder's BUS_ERR lines are exactly the refusals of R62. -/
theorem isBusErr_decodeBus_iff (t : TxWord) : isBusErr (decodeBus t) = true ↔ isRefused t := by
  constructor
  · intro h
    by_contra hr
    rw [decodeBus_of_accepted hr] at h
    split_ifs at h
    · cases h
    · cases h
    · rw [isBusErr_decodeRegister] at h
      cases h
  · intro h
    unfold decodeBus decodeFields
    split_ifs with hw h11 h0 h1
    · rfl
    · rfl
    · rfl
    · rfl
    all_goals exact absurd ((isRefused_iff t).1 h) (not_or.2 ⟨hw, not_or.2 ⟨h11, not_or.2 ⟨h0, h1⟩⟩⟩)

theorem runTransaction_refused {t : TxWord} (h : isRefused t) (s : State) :
    runTransaction t s = .next (raiseBusError s) :=
  exec_of_isBusErr ((isBusErr_decodeBus_iff t).2 h) s

/-- A refused transaction starts no acquisition. -/
theorem isAcceptedStart_refused {t : TxWord} (h : isRefused t) (s : State) : isAcceptedStart t s = false := by
  have hb := (isBusErr_decodeBus_iff t).2 h
  unfold isAcceptedStart
  split
  · rename_i d hd
    rw [hd] at hb
    cases hb
  · rfl

/-- R10: a cycle without reset runs its transaction before the clock's edge. -/
theorem runCycle_transaction (t : TxWord) (ext : Bool) (s : State) :
    runCycle ⟨true, some t, ext⟩ s =
      andThen (runTransaction t s) (clockEdge (lineLevel s ext) (isAcceptedStart t s)) := rfl

/-- R236: the cycle of a refused transaction is the cycle without one, from the state with the error answer. -/
theorem runCycle_refused {t : TxWord} (h : isRefused t) (ext : Bool) (s : State) :
    runCycle ⟨true, some t, ext⟩ s = runCycle ⟨true, none, ext⟩ (raiseBusError s) := by
  rw [runCycle_transaction, runTransaction_refused h, isAcceptedStart_refused h]
  rfl

/-- A row that fixes bits of SZ and OFF alone. -/
theorem masked_packTx_iff (ks ms : BitVec 2) (ko mo : BitVec 6) (t : TxWord) :
    t &&& packTx false ks ko 0 = packTx false ms mo 0 ↔ txSz t &&& ks = ms ∧ txOff t &&& ko = mo := by
  simp [masked_iff]

/-- R83: the masks of the four BUS_ERR rows, over SZ and OFF, match exactly what R62 refuses. -/
theorem busErrRows_iff (sz : BitVec 2) (off : BitVec 6) :
    (sz ≠ 0b10#2 ∨ off.toNat % 4 ≠ 0) ↔
      (sz &&& 0b10#2 = 0b00#2 ∧ off &&& 0b00#6 = 0b00#6) ∨ (sz &&& 0b11#2 = 0b11#2 ∧ off &&& 0b00#6 = 0b00#6) ∨
      (sz &&& 0b11#2 = 0b10#2 ∧ off &&& 0b01#6 = 0b01#6) ∨ (sz &&& 0b11#2 = 0b10#2 ∧ off &&& 0b11#6 = 0b10#6) := by
  revert sz off
  decide

theorem isRefused_iff_rows (t : TxWord) :
    isRefused t ↔ t &&& 0x08000000000#41 = 0 ∨ t &&& 0x0C000000000#41 = 0x0C000000000#41 ∨
      t &&& 0x0C100000000#41 = 0x08100000000#41 ∨ t &&& 0x0C300000000#41 = 0x08200000000#41 := by
  rw [isRefused, busErrRows_iff]
  simp only [← masked_packTx_iff]
  rfl

/-- Settles O20: the decoder's BUS_ERR rows are the refusals (`isRefused_iff_rows`, `isBusErr_decodeBus_iff`), and
each runs `raiseBusError`, in a cycle as well (`runCycle_refused`). -/
theorem refusedTransactionsOnlyAnswerAnError : Obligations.RefusedTransactionsOnlyAnswerAnError :=
  ⟨isRefused_iff_rows, fun _ _ _ _ _ => ⟨rfl, rfl, rfl, rfl⟩, fun _ s h =>
    ⟨runTransaction_refused h s, fun ext => runCycle_refused h ext s⟩⟩

/-! ## The window's words and bytes (R24, R63, R64) -/

theorem windowWord_reserved {j : Nat} (h : 8 ≤ j) (s : State) : windowWord j s = 0 := by
  obtain ⟨n, rfl⟩ := Nat.exists_eq_add_of_le' h
  rfl

/-- Byte lane `i` of the word at an aligned offset (R63). -/
theorem windowByte_lane {off i : Nat} (hoff : off % 4 = 0) (hi : i < 4) (s : State) :
    windowByte (off + i) s = (windowWord (off / 4) s).extractLsb' (8 * i) 8 := by
  have hword : (off + i) / 4 = off / 4 := by omega
  have hlane : (off + i) % 4 = i := by omega
  rw [windowByte, hword, hlane]

/-- R64: the reserved half reads 0. -/
theorem windowByte_reserved {a : Nat} (h : 0x20 ≤ a) (s : State) : windowByte a s = 0 := by
  rw [windowByte, windowWord_reserved (by omega)]
  exact BitVec.extractLsb'_zero

/-- The lanes above the lowest byte of a concatenation are those of its upper part. -/
theorem lane_append {n : Nat} (hi : BitVec n) (lo : BitVec 8) (i : Nat) :
    (hi ++ lo).extractLsb' (8 * (i + 1)) 8 = hi.extractLsb' (8 * i) 8 := by
  rw [BitVec.extractLsb'_append_eq_of_le (by omega), Nat.mul_succ, Nat.add_sub_cancel]

/-- R35: lane `i` of DATA0 is frame byte b_i. -/
theorem data0Word_lane (f : Frame) {i : Nat} (h : i < 4) : (data0Word f).extractLsb' (8 * i) 8 = frameByte f i := by
  match i, h with
  | 0, _ => exact BitVec.extractLsb'_append_eq_right
  | 1, _ => exact (lane_append _ _ 0).trans BitVec.extractLsb'_append_eq_right
  | 2, _ => exact (lane_append _ _ 1).trans ((lane_append _ _ 0).trans BitVec.extractLsb'_append_eq_right)
  | 3, _ => exact (lane_append _ _ 2).trans ((lane_append _ _ 1).trans ((lane_append _ _ 0).trans
      BitVec.extractLsb'_eq_self))

/-- R36: the lowest lane of DATA1 is frame byte b_4. -/
theorem data1Word_lane (f : Frame) : (data1Word f).extractLsb' 0 8 = frameByte f 4 :=
  (BitVec.extractLsb'_setWidth_of_le (by decide)).trans BitVec.extractLsb'_eq_self

/-- R63: frame byte b_i is the byte at offset 0x10 + i. -/
theorem windowByte_frame {i : Nat} (h : i < 5) (s : State) : windowByte (0x10 + i) s = frameByte s.lf i := by
  by_cases hi : i < 4
  · exact (windowByte_lane rfl hi s).trans (data0Word_lane s.lf hi)
  · obtain rfl : i = 4 := by omega
    exact data1Word_lane s.lf

/-! ## Accepted reads, and writes that have no effect -/

/-- An offset in the upper half of the window (R64). -/
theorem off_reserved_iff (off : BitVec 6) : off.getLsbD 5 = true ↔ 32 ≤ off.toNat := by
  have hmsb : off.getLsbD 5 = decide (32 ≤ off.toNat) :=
    (BitVec.msb_eq_getLsbD_last off).symm.trans (BitVec.msb_eq_decide off)
  rw [hmsb, decide_eq_true_iff]

/-- Below the reserved half, OFF[4:2] is the word index. -/
theorem off_index {off : BitVec 6} (h : ¬ off.getLsbD 5 = true) : (off.extractLsb' 2 3).toNat = off.toNat / 4 := by
  rw [off_reserved_iff] at h
  rw [BitVec.extractLsb'_toNat, Nat.shiftRight_eq_div_pow]
  omega

theorem registerIndex_cases (idx : BitVec 3) :
    idx = 0 ∨ idx = 1 ∨ idx = 2 ∨ idx = 3 ∨ idx = 4 ∨ idx = 5 ∨ idx = 6 ∨ idx = 7 := by
  revert idx
  decide

theorem exec_registerRead (idx : BitVec 3) (d : Word) (s : State) :
    exec (decodeRegister false idx d) s = .next (respond (windowWord idx.toNat s) s) := by
  obtain rfl | rfl | rfl | rfl | rfl | rfl | rfl | rfl := registerIndex_cases idx <;> rfl

/-- DATA0, DATA1, HUMIDITY and TEMPERATURE ignore a write (R111, R113, R115, R117). -/
theorem exec_readOnlyWrite {idx : BitVec 3} (h : 4 ≤ idx.toNat) (d : Word) (s : State) :
    exec (decodeRegister true idx d) s = .next (respond 0 s) := by
  obtain rfl | rfl | rfl | rfl | rfl | rfl | rfl | rfl := registerIndex_cases idx
  iterate 4 exact absurd h (by decide)
  all_goals rfl

/-- R100: an accepted read answers the word of the window at its offset, and changes nothing else. -/
theorem runTransaction_read {t : TxWord} (h : ¬ isRefused t) (hw : txW t = false) (s : State) :
    runTransaction t s = .next (respond (windowWord ((txOff t).toNat / 4) s) s) := by
  rw [runTransaction, decodeBus_of_accepted h, hw]
  by_cases h5 : (txOff t).getLsbD 5 = true
  · have hj : 8 ≤ (txOff t).toNat / 4 := by
      have := (off_reserved_iff _).1 h5
      omega
    rw [if_pos h5, windowWord_reserved hj]
    rfl
  · rw [if_neg h5, exec_registerRead, off_index h5]

/-- R67: an accepted write from offset 16 on is ignored. -/
theorem runTransaction_ignoredWrite {t : TxWord} (h : ¬ isRefused t) (hw : txW t = true)
    (hoff : 16 ≤ (txOff t).toNat) (s : State) : runTransaction t s = .next (respond 0 s) := by
  rw [runTransaction, decodeBus_of_accepted h, hw]
  by_cases h5 : (txOff t).getLsbD 5 = true
  · rw [if_pos h5]
    rfl
  · have hidx : 4 ≤ ((txOff t).extractLsb' 2 3).toNat := by
      rw [off_index h5]
      omega
    rw [if_neg h5, exec_readOnlyWrite hidx]

/-- Settles O23: `windowByte_lane` for the answer of a read, `windowByte_frame` and `windowByte_reserved`. -/
theorem windowBytesAreLittleEndianLanes : Obligations.WindowBytesAreLittleEndianLanes := by
  refine ⟨fun t s u i hr hw hi h => ?_, fun s i hi => ?_, fun s a ha => windowByte_reserved ha s⟩
  · obtain ⟨-, h0⟩ := not_or.1 hr
    rw [runTransaction_read hr hw] at h
    cases h
    exact (windowByte_lane (not_not.1 h0) hi s).symm
  · rw [windowByte_frame hi, frameByte_toNat _ _ hi, byteNat]

/-- Settles O22: a refused transaction answers an error, an accepted read the window's word, and an accepted write
from offset 16 on the word 0. -/
theorem readsHaveNoSideEffects : Obligations.ReadsHaveNoSideEffects := by
  intro t s u h
  by_cases hr : isRefused t
  · rw [runTransaction_refused hr] at h
    cases h
    exact ⟨fun _ => ⟨rfl, runTransaction_refused hr _, fun _ => rfl⟩, fun _ _ => rfl⟩
  · refine ⟨fun hw => ?_, fun hw hoff => ?_⟩
    · rw [runTransaction_read hr hw] at h
      cases h
      exact ⟨rfl, runTransaction_read hr hw _, fun _ => rfl⟩
    · rw [runTransaction_ignoredWrite hr hw hoff] at h
      cases h
      rfl

/-! ## Routing (R60) -/

theorem route_inside (off : BitVec 6) : route (Config.base + off.toNat) = some off := by
  have := off.isLt
  rw [route, if_pos (by omega), Nat.add_sub_cancel_left, BitVec.ofNat_toNat, BitVec.setWidth_eq]

theorem route_outside {addr : Nat} (h : addr < Config.base ∨ Config.base + 64 ≤ addr) : route addr = none := by
  rw [route, if_neg (by omega)]

/-- Settles O24: `route_inside` and `route_outside`. -/
theorem onlyWindowAddressesReachTheBlock : Obligations.OnlyWindowAddressesReachTheBlock := by
  refine ⟨Nat.mul_mod_right 64 _, fun a s => ⟨fun off h => ?_, fun h => ?_⟩⟩
  · rw [runAccess, routeAccess, h, route_inside]
    rfl
  · rw [runAccess, routeAccess, route_outside h]
    rfl

/-! ## What the host cannot tell apart (R75) -/

theorem hostVisibleEq_idle_iff {s t : State} (h : hostVisibleEq s t) : s.st = .idle ↔ t.st = .idle := by
  rw [← busy_eq_false_iff, ← busy_eq_false_iff, h.1]

/-- Every register reads alike. -/
theorem readReg_of_hostVisibleEq {s t : State} (h : hostVisibleEq s t) (r : Reg) : readReg r s = readReg r t := by
  obtain ⟨hbusy, hdone, hok, hvalid, herr, hbit, hlf, htimeout, hlow⟩ := h
  cases r with
  | ctrl => rfl
  | status => simp only [readReg, statusWord, hbusy, hdone, hok, hvalid, herr, hbit]
  | cfgTimeout => simp only [readReg, htimeout]
  | cfgStart => simp only [readReg, hlow]
  | data0 | data1 | humidity | temperature => simp only [readReg, hlf]

theorem acceptsStart_of_hostVisibleEq {s t : State} (h : hostVisibleEq s t) (d : Word) :
    acceptsStart d s = acceptsStart d t := by
  rw [Bool.eq_iff_iff, acceptsStart_iff, acceptsStart_iff, hostVisibleEq_idle_iff h]

theorem hostVisibleEq_startAcquisition {s t : State} (h : hostVisibleEq s t) :
    hostVisibleEq (startAcquisition s) (startAcquisition t) := by
  obtain ⟨-, -, -, hvalid, -, -, hframe, hconfig⟩ := h
  exact ⟨rfl, rfl, rfl, hvalid, rfl, rfl, hframe, hconfig⟩

theorem hostVisibleEq_clearDone {s t : State} (h : hostVisibleEq s t) :
    hostVisibleEq (clearDone s) (clearDone t) := by
  obtain ⟨hbusy, -, hrest⟩ := h
  exact ⟨hbusy, rfl, hrest⟩

theorem hostVisibleEq_writeTimeout {s t : State} (h : hostVisibleEq s t) (d : Word) :
    hostVisibleEq (writeTimeout d s) (writeTimeout d t) := by
  simp only [writeTimeout, ← hostVisibleEq_idle_iff h]
  split
  · obtain ⟨hbusy, hdone, hok, hvalid, herr, hbit, hlf, -, hlow⟩ := h
    exact ⟨hbusy, hdone, hok, hvalid, herr, hbit, hlf, rfl, hlow⟩
  · exact h

theorem hostVisibleEq_writeStartLow {s t : State} (h : hostVisibleEq s t) (d : Word) :
    hostVisibleEq (writeStartLow d s) (writeStartLow d t) := by
  simp only [writeStartLow, ← hostVisibleEq_idle_iff h]
  split
  · obtain ⟨hbusy, hdone, hok, hvalid, herr, hbit, hlf, htimeout, -⟩ := h
    exact ⟨hbusy, hdone, hok, hvalid, herr, hbit, hlf, htimeout, rfl⟩
  · exact h

/-- Both operations complete, with the same answer, in states the host cannot tell apart. -/
def answerAlike (o₁ o₂ : Host.Outcome State Fault Refusal) : Prop :=
  ∃ u₁ u₂, o₁ = .next u₁ ∧ o₂ = .next u₂ ∧ u₁.rdata = u₂.rdata ∧ u₁.busErr = u₂.busErr ∧ hostVisibleEq u₁ u₂

theorem answerAlike_respond {v w : Word} {s t : State} (hv : v = w) (h : hostVisibleEq s t) :
    answerAlike (.next (respond v s)) (.next (respond w t)) :=
  ⟨_, _, rfl, rfl, hv, rfl, h⟩

theorem answerAlike_raiseBusError {s t : State} (h : hostVisibleEq s t) :
    answerAlike (.next (raiseBusError s)) (.next (raiseBusError t)) :=
  ⟨_, _, rfl, rfl, rfl, rfl, h⟩

/-- A branch that both states take alike. -/
theorem hostVisibleEq_ite {c₁ c₂ : Bool} {s₁ s₂ t₁ t₂ : State} (hc : c₁ = c₂) (ha : hostVisibleEq s₁ s₂)
    (hb : hostVisibleEq t₁ t₂) : hostVisibleEq (if c₁ then s₁ else t₁) (if c₂ then s₂ else t₂) := by
  subst hc
  cases c₁
  · exact hb
  · exact ha

theorem exec_answerAlike {i : Instr} (hi : isHostOp i = true) {s t : State} (h : hostVisibleEq s t) :
    answerAlike (exec i s) (exec i t) := by
  cases i with
  | rdCtrl | rdStatus | rdCfgTimeout | rdCfgStart | rdData0 | rdData1 | rdHumidity | rdTemperature =>
    exact answerAlike_respond (readReg_of_hostVisibleEq h _) h
  | rdReserved | wrData0 | wrData1 | wrHumidity | wrTemperature | wrReserved => exact answerAlike_respond rfl h
  | busErrSubword | busErrSz11 | busErrOffOdd | busErrOffHalf => exact answerAlike_raiseBusError h
  | wrCtrl d =>
    exact answerAlike_respond rfl
      (hostVisibleEq_ite (acceptsStart_of_hostVisibleEq h d) (hostVisibleEq_startAcquisition h) h)
  | wrStatus d => exact answerAlike_respond rfl (hostVisibleEq_ite rfl (hostVisibleEq_clearDone h) h)
  | wrCfgTimeout d => exact answerAlike_respond rfl (hostVisibleEq_writeTimeout h d)
  | wrCfgStart d => exact answerAlike_respond rfl (hostVisibleEq_writeStartLow h d)
  | tickIdle | tickStartLow | tickRelease | tickWait | tickDecode | tickFinish | tickIllegal => cases hi

/-- Settles O25: every operation a transaction decodes to answers alike (`exec_answerAlike`). -/
theorem internalStateCannotReachTheHost : Obligations.InternalStateCannotReachTheHost := by
  intro t s₁ s₂ u₁ h h₁
  obtain ⟨v₁, u₂, hv, h₂, hrest⟩ := exec_answerAlike (isHostOp_decodeBus t) h
  obtain rfl : u₁ = v₁ := Host.Outcome.next.inj (h₁.symm.trans hv)
  exact ⟨u₂, h₂, hrest⟩

end Sys2Proof.Machine
end

section
/-! PROOFS of the encoding statements (30_encoding.md): decoder and encoder undo each other, the opcode map's rows
are disjoint and complete, and what the words of the table numbering and of the configuration writes run. -/

namespace Sys2Proof.Machine

/-! ## Encoding, then decoding -/

/-- Settles O7: the family `Laws.RoundTrip`, row by row of the opcode table. -/
theorem decodeOfEncodeIsTheInstruction : Obligations.DecodeOfEncodeIsTheInstruction := by
  intro i
  cases i with
  | rdCtrl d => exact Laws.RoundTrip.rdCtrl d
  | wrCtrl d => exact Laws.RoundTrip.wrCtrl d
  | rdStatus d => exact Laws.RoundTrip.rdStatus d
  | wrStatus d => exact Laws.RoundTrip.wrStatus d
  | rdCfgTimeout d => exact Laws.RoundTrip.rdCfgTimeout d
  | wrCfgTimeout d => exact Laws.RoundTrip.wrCfgTimeout d
  | rdCfgStart d => exact Laws.RoundTrip.rdCfgStart d
  | wrCfgStart d => exact Laws.RoundTrip.wrCfgStart d
  | rdData0 d => exact Laws.RoundTrip.rdData0 d
  | wrData0 d => exact Laws.RoundTrip.wrData0 d
  | rdData1 d => exact Laws.RoundTrip.rdData1 d
  | wrData1 d => exact Laws.RoundTrip.wrData1 d
  | rdHumidity d => exact Laws.RoundTrip.rdHumidity d
  | wrHumidity d => exact Laws.RoundTrip.wrHumidity d
  | rdTemperature d => exact Laws.RoundTrip.rdTemperature d
  | wrTemperature d => exact Laws.RoundTrip.wrTemperature d
  | rdReserved off d => exact Laws.RoundTrip.rdReserved off d
  | wrReserved off d => exact Laws.RoundTrip.wrReserved off d
  | busErrSubword w sz off d => exact Laws.RoundTrip.busErrSubword w sz off d
  | busErrSz11 w off d => exact Laws.RoundTrip.busErrSz11 w off d
  | busErrOffOdd w off d => exact Laws.RoundTrip.busErrOffOdd w off d
  | busErrOffHalf w off d => exact Laws.RoundTrip.busErrOffHalf w off d
  | tickIdle => exact Laws.RoundTrip.tickIdle
  | tickStartLow => exact Laws.RoundTrip.tickStartLow
  | tickRelease => exact Laws.RoundTrip.tickRelease
  | tickWait => exact Laws.RoundTrip.tickWait
  | tickDecode => exact Laws.RoundTrip.tickDecode
  | tickFinish => exact Laws.RoundTrip.tickFinish
  | tickIllegal low => exact Laws.RoundTrip.tickIllegal low

/-! ## Decoding, then encoding -/

/-- R82's decode order, inverted: the fields with which the decoder reads each kind of operation. -/
inductive DecodedFrom (w : Bool) (d : Word) : BitVec 2 → BitVec 6 → Instr → Prop where
  | subword (sz : BitVec 2) (off : BitVec 6) : sz.getLsbD 1 = false →
      DecodedFrom w d sz off (.busErrSubword w sz off d)
  | sz11 (off : BitVec 6) : DecodedFrom w d 0b11#2 off (.busErrSz11 w off d)
  | offOdd (off : BitVec 6) : off.getLsbD 0 = true → DecodedFrom w d 0b10#2 off (.busErrOffOdd w off d)
  | offHalf (off : BitVec 6) : off.getLsbD 1 = true → off.getLsbD 0 = false →
      DecodedFrom w d 0b10#2 off (.busErrOffHalf w off d)
  | reserved (off : BitVec 6) : isReservedOffset off = true →
      DecodedFrom w d 0b10#2 off (if w then .wrReserved off d else .rdReserved off d)
  | register (idx : BitVec 3) : DecodedFrom w d 0b10#2 (0#1 ++ idx ++ 0#2) (decodeRegister w idx d)

/-- SZ of a word access: neither sub-word nor the reserved code (R82). -/
theorem sz_eq_word : ∀ {sz : BitVec 2}, sz.getLsbD 1 ≠ false → sz ≠ 0b11#2 → sz = 0b10#2 := by
  decide

/-- An aligned offset in the lower half of the window is its word index times 4 (R82). -/
theorem off_eq_register : ∀ {off : BitVec 6}, off.getLsbD 0 ≠ true → off.getLsbD 1 ≠ true →
    off.getLsbD 5 ≠ true → off = 0#1 ++ off.extractLsb' 2 3 ++ 0#2 := by
  decide

theorem decodeFields_from (w : Bool) (sz : BitVec 2) (off : BitVec 6) (d : Word) :
    DecodedFrom w d sz off (decodeFields w sz off d) := by
  rw [decodeFields]
  by_cases hw : sz.getLsbD 1 = false
  · rw [if_pos hw]
    exact .subword sz off hw
  by_cases h11 : sz = 0b11#2
  · rw [if_neg hw, if_pos h11, h11]
    exact .sz11 off
  rw [if_neg hw, if_neg h11]
  obtain rfl := sz_eq_word hw h11
  by_cases h0 : off.getLsbD 0 = true
  · rw [if_pos h0]
    exact .offOdd off h0
  by_cases h1 : off.getLsbD 1 = true
  · rw [if_neg h0, if_pos h1]
    exact .offHalf off h1 (Bool.eq_false_of_not_eq_true h0)
  rw [if_neg h0, if_neg h1]
  by_cases h5 : off.getLsbD 5 = true
  · rw [if_pos h5]
    have hoff : isReservedOffset off = true := by
      rw [isReservedOffset, h5, Bool.eq_false_of_not_eq_true h1, Bool.eq_false_of_not_eq_true h0]
      rfl
    exact .reserved off hoff
  · rw [if_neg h5]
    nth_rw 1 [off_eq_register h0 h1 h5]
    exact .register (off.extractLsb' 2 3)

theorem decodeBus_from (t : TxWord) : DecodedFrom (txW t) (txWdata t) (txSz t) (txOff t) (decodeBus t) :=
  decodeFields_from ..

theorem DecodedFrom.isWellFormed {w : Bool} {d : Word} {sz : BitVec 2} {off : BitVec 6} {i : Instr}
    (h : DecodedFrom w d sz off i) : wellFormed i = true := by
  cases h with
  | subword _ _ hsz =>
    rw [wellFormed, hsz]
    rfl
  | sz11 => rfl
  | offOdd _ h0 => exact h0
  | offHalf _ h1 h0 =>
    rw [wellFormed, h1, h0]
    rfl
  | reserved _ hoff => cases w <;> exact hoff
  | register idx => exact wellFormed_decodeRegister w idx d

theorem DecodedFrom.encode_eq {w : Bool} {d : Word} {sz : BitVec 2} {off : BitVec 6} {i : Instr}
    (h : DecodedFrom w d sz off i) : encode i = .bus (packTx w sz off d) := by
  cases h with
  | subword | sz11 | offOdd | offHalf => rfl
  | reserved => cases w <;> rfl
  | register idx => exact encode_decodeRegister w idx d

theorem decodeTick_roundTrip : ∀ c : BitVec 3,
    wellFormed (decodeTick c) = true ∧ encode (decodeTick c) = .tick c := by
  decide

/-- Settles O8: a transaction by R82's inverted decode order (`decodeBus_from`), a state code by computing all eight. -/
theorem encodeOfDecodeIsTheWord : Obligations.EncodeOfDecodeIsTheWord
  | .bus t => ⟨(decodeBus_from t).isWellFormed, by rw [decode, (decodeBus_from t).encode_eq, packTx_fields]⟩
  | .tick c => decodeTick_roundTrip c

/-! ## The rows of the opcode map (R83, R90) -/

/-- No word can match two rows: where both rows fix the bits, their matches differ. -/
def rowsDisjoint {n : Nat} (rows : List (String × BitVec n × BitVec n)) : Prop :=
  ∀ q ∈ rows, ∀ r ∈ rows, q.2.1 &&& r.2.2 = r.2.1 &&& q.2.2 → q = r

/-- The word matches a row with the mnemonic `name`. -/
def matchesRowOf {n : Nat} (rows : List (String × BitVec n × BitVec n)) (t : BitVec n) (name : String) : Prop :=
  ∃ r ∈ rows, t &&& r.2.2 = r.2.1 ∧ r.1 = name

/-- Among disjoint rows, a row that a word matches is the only one. -/
theorem matchesRowOf.unique {n : Nat} {rows : List (String × BitVec n × BitVec n)} {t : BitVec n} {name : String}
    (h : matchesRowOf rows t name) (hd : rowsDisjoint rows) :
    ∃ r ∈ rows, t &&& r.2.2 = r.2.1 ∧ r.1 = name ∧ ∀ q ∈ rows, t &&& q.2.2 = q.2.1 → q = r := by
  obtain ⟨r, hr, hmatch, hname⟩ := h
  refine ⟨r, hr, hmatch, hname, fun q hq hqmatch => hd q hq r hr ?_⟩
  rw [← hmatch, ← hqmatch, BitVec.and_assoc, BitVec.and_assoc, BitVec.and_comm q.2.2]

theorem busRows_disjoint : rowsDisjoint busRows := by
  unfold rowsDisjoint
  decide

theorem tickRows_disjoint : rowsDisjoint tickRows := by
  unfold rowsDisjoint
  decide

/-- The row of a register access: the opcode map fixes W, SZ and OFF. -/
theorem registerRow_mem : ∀ (w : Bool) (idx : BitVec 3),
    (mnemonic (decodeRegister w idx 0), packTx w 0b10#2 (0#1 ++ idx ++ 0#2) 0, 0x1FF00000000#41) ∈ busRows := by
  decide

theorem mnemonic_decodeRegister (w : Bool) (idx : BitVec 3) (d d' : Word) :
    mnemonic (decodeRegister w idx d) = mnemonic (decodeRegister w idx d') := by
  obtain rfl | rfl | rfl | rfl | rfl | rfl | rfl | rfl := registerIndex_cases idx <;> cases w <;> rfl

/-- A row that fixes bits of W, SZ and OFF. -/
theorem row_match_iff (w kw mw : Bool) (sz ks ms : BitVec 2) (off ko mo : BitVec 6) (d : Word) :
    packTx w sz off d &&& packTx kw ks ko 0 = packTx mw ms mo 0 ↔
      (w && kw) = mw ∧ sz &&& ks = ms ∧ off &&& ko = mo := by
  simp [masked_iff]

/-! What the BUS_ERR rows and the reserved rows fix of SZ and OFF, bit by bit in the decoder and by mask in the
table. -/

theorem sz_masked_subword : ∀ {sz : BitVec 2}, sz.getLsbD 1 = false → sz &&& 0b10#2 = 0 := by
  decide

theorem off_masked_odd : ∀ {off : BitVec 6}, off.getLsbD 0 = true → off &&& 0b01#6 = 0b01#6 := by
  decide

theorem off_masked_half : ∀ {off : BitVec 6}, off.getLsbD 1 = true → off.getLsbD 0 = false →
    off &&& 0b11#6 = 0b10#6 := by
  decide

theorem off_masked_reserved : ∀ {off : BitVec 6}, isReservedOffset off = true →
    off &&& 0b100011#6 = 0b100000#6 := by
  decide

/-- A transaction matches the row of the operation it decodes to. -/
theorem DecodedFrom.matchesRow {w : Bool} {d : Word} {sz : BitVec 2} {off : BitVec 6} {i : Instr}
    (h : DecodedFrom w d sz off i) : matchesRowOf busRows (packTx w sz off d) (mnemonic i) := by
  cases h with
  | subword sz off hsz =>
    exact ⟨("BUS_ERR_SUBWORD", packTx false 0 0 0, packTx false 0b10#2 0 0), by decide,
      (row_match_iff ..).2 ⟨Bool.and_false w, sz_masked_subword hsz, BitVec.and_zero⟩, rfl⟩
  | sz11 =>
    exact ⟨("BUS_ERR_SZ11", packTx false 0b11#2 0 0, packTx false 0b11#2 0 0), by decide,
      (row_match_iff ..).2 ⟨Bool.and_false w, rfl, BitVec.and_zero⟩, rfl⟩
  | offOdd off h0 =>
    exact ⟨("BUS_ERR_OFF_ODD", packTx false 0b10#2 0b01#6 0, packTx false 0b11#2 0b01#6 0), by decide,
      (row_match_iff ..).2 ⟨Bool.and_false w, rfl, off_masked_odd h0⟩, rfl⟩
  | offHalf off h1 h0 =>
    exact ⟨("BUS_ERR_OFF_HALF", packTx false 0b10#2 0b10#6 0, packTx false 0b11#2 0b11#6 0), by decide,
      (row_match_iff ..).2 ⟨Bool.and_false w, rfl, off_masked_half h1 h0⟩, rfl⟩
  | reserved off hoff =>
    cases w with
    | false =>
      exact ⟨("RD_RESERVED", packTx false 0b10#2 0b100000#6 0, packTx true 0b11#2 0b100011#6 0), by decide,
        (row_match_iff ..).2 ⟨rfl, rfl, off_masked_reserved hoff⟩, rfl⟩
    | true =>
      exact ⟨("WR_RESERVED", packTx true 0b10#2 0b100000#6 0, packTx true 0b11#2 0b100011#6 0), by decide,
        (row_match_iff ..).2 ⟨rfl, rfl, off_masked_reserved hoff⟩, rfl⟩
  | register idx =>
    exact ⟨_, registerRow_mem w idx,
      (row_match_iff w true w _ 0b11#2 _ _ 0b111111#6 _ d).2 ⟨Bool.and_true w, rfl, BitVec.and_allOnes⟩,
      mnemonic_decodeRegister w idx 0 d⟩

theorem decodeTick_matchesRow : ∀ c : BitVec 3, matchesRowOf tickRows c (mnemonic (decodeTick c)) := by
  unfold matchesRowOf
  decide

/-- Settles O9: the decoded operation's row matches (`DecodedFrom.matchesRow`), and rows are disjoint. -/
theorem opcodeRowsAreDisjointAndComplete : Obligations.OpcodeRowsAreDisjointAndComplete := by
  refine ⟨fun t => ?_, fun c => (decodeTick_matchesRow c).unique tickRows_disjoint⟩
  have h := (decodeBus_from t).matchesRow
  rw [packTx_fields] at h
  exact h.unique busRows_disjoint

/-! ## Table words and the words of the spec -/

/-- A tick row's word is decoded from its three low bits (entry 12). -/
theorem decodeTableWord_tick {nbits w : Nat} {i : Instr} (hn : nbits ≤ 32) (h : decodeTableWord nbits w = some i) :
    decodeTick (BitVec.ofNat 3 w) = i := by
  rw [decodeTableWord, readTableWord, if_pos hn] at h
  split_ifs at h
  exact Option.some.inj h

/-- A bus row's word is decoded from its 41 low bits (entry 12). -/
theorem decodeTableWord_bus {nbits w : Nat} {i : Instr} (hn : 32 < nbits) (h : decodeTableWord nbits w = some i) :
    decodeBus (BitVec.ofNat 41 w) = i := by
  rw [decodeTableWord, readTableWord, if_neg (Nat.not_le_of_lt hn)] at h
  split_ifs at h
  exact Option.some.inj h

theorem sampleLine_self (s : State) : sampleLine s.dqS s = s := by
  unfold sampleLine
  split <;> rfl

/-- The step from a bus word performs its transaction (entry 13). -/
theorem step_withFetchWord_bus {nbits : Nat} (hn : 32 < nbits) (w : Nat) (s : State) :
    step (s.withFetchWord nbits w) = runTransaction (BitVec.ofNat 41 w) s := by
  rw [State.withFetchWord, if_neg (Nat.not_le_of_lt hn), step_queued rfl]
  rfl

/-- The step from a tick word runs the tick operation of its state code (R90; entry 13). -/
theorem step_withFetchWord_tick {nbits : Nat} (hn : nbits ≤ 32) (w : Nat) (s : State) :
    step (s.withFetchWord nbits w) =
      exec (decodeTick (BitVec.ofNat 3 w)) { s with st := ofStCode (BitVec.ofNat 3 w) } := by
  rw [State.withFetchWord, if_pos hn, step_queued rfl]
  change runTick s.dqS { s with st := ofStCode (BitVec.ofNat 3 w) } = _
  rw [runTick, stCode_ofStCode]
  exact congrArg _ (sampleLine_self { s with st := ofStCode (BitVec.ofNat 3 w) })

/-- Settles O4: the two kinds of table word, `step_withFetchWord_bus` and `step_withFetchWord_tick`. -/
theorem fetchWordRunsItsOperation : Obligations.FetchWordRunsItsOperation := by
  intro s nbits w i h
  constructor
  · intro hn
    rw [step_withFetchWord_bus hn, runTransaction, decodeTableWord_bus hn h]
  · intro hn
    rw [step_withFetchWord_tick hn, decodeTableWord_tick hn h]

/-- Settles O6: each of the thirteen closed words is decoded by computation. -/
theorem specWordsDecode : Obligations.SpecWordsDecode := by
  unfold Obligations.SpecWordsDecode
  decide

/-! ## The configuration writes (R85, R107, R109) -/

theorem exec_wrCfgTimeout_idle {s : State} (h : s.st = .idle) (d : Word) :
    exec (.wrCfgTimeout d) s = .next (respond 0 { s with timeoutUs := timeoutOperand d }) := by
  rw [exec, execWrCfgTimeout, writeTimeout, if_pos h]

theorem exec_wrCfgTimeout_busy {s : State} (h : s.st ≠ .idle) (d : Word) :
    exec (.wrCfgTimeout d) s = .next (respond 0 s) := by
  rw [exec, execWrCfgTimeout, writeTimeout, if_neg h]

theorem exec_wrCfgStart_idle {s : State} (h : s.st = .idle) (d : Word) :
    exec (.wrCfgStart d) s = .next (respond 0 { s with startLowMs := startLowOperand d }) := by
  rw [exec, execWrCfgStart, writeStartLow, if_pos h]

theorem exec_wrCfgStart_busy {s : State} (h : s.st ≠ .idle) (d : Word) :
    exec (.wrCfgStart d) s = .next (respond 0 s) := by
  rw [exec, execWrCfgStart, writeStartLow, if_neg h]

/-- Settles O18: the rows by their match, the writes by the two cases of `writeTimeout` and `writeStartLow`. -/
theorem configWritesClampAndAreIgnoredWhileBusy : Obligations.ConfigWritesClampAndAreIgnoredWhileBusy := by
  refine ⟨fun _ => decodeBus_of_match, fun _ => decodeBus_of_match, fun d s => ⟨fun h => ?_, fun h => ?_⟩⟩
  · exact ⟨timeoutOperand d, startLowOperand d, timeoutOperand_toNat d, startLowOperand_toNat d,
      exec_wrCfgTimeout_idle h d, exec_wrCfgStart_idle h d⟩
  · exact ⟨exec_wrCfgTimeout_busy h d, exec_wrCfgStart_busy h d⟩

end Sys2Proof.Machine
end

section
/-! PROOFS of the statements about the host bus operations (40_host_operations.md): the answer of every accepted
transaction, the register values as numbers, the two effects of a CTRL and of a STATUS write. -/

namespace Sys2Proof.Machine

open Sys2Proof.Statements

/-! ## Accepted transactions (R100) -/

theorem exec_registerWrite_answers (idx : BitVec 3) (d : Word) (s : State) :
    ∃ u, exec (decodeRegister true idx d) s = .next (respond 0 u) := by
  obtain rfl | rfl | rfl | rfl | rfl | rfl | rfl | rfl := registerIndex_cases idx <;> exact ⟨_, rfl⟩

/-- R100: an accepted write answers (0, 0), whatever it does to the registers. -/
theorem runTransaction_write_answers {t : TxWord} (h : ¬ isRefused t) (hw : txW t = true) (s : State) :
    ∃ u, runTransaction t s = .next (respond 0 u) := by
  rw [runTransaction, decodeBus_of_accepted h, hw]
  by_cases h5 : (txOff t).getLsbD 5 = true
  · rw [if_pos h5]
    exact ⟨s, rfl⟩
  · rw [if_neg h5]
    exact exec_registerWrite_answers ..

/-- Settles O21: a read by `runTransaction_read`, a write by `runTransaction_write_answers`. -/
theorem acceptedTransactionsAnswerWithoutError : Obligations.AcceptedTransactionsAnswerWithoutError := by
  intro t s h
  cases hw : txW t with
  | false => exact ⟨_, runTransaction_read h hw s, rfl, nofun, fun _ => rfl⟩
  | true =>
    obtain ⟨u, hu⟩ := runTransaction_write_answers h hw s
    exact ⟨_, hu, rfl, fun _ => rfl, nofun⟩

/-! ## The rows of the reserved offsets (R118, R119) -/

/-- The bits that the reserved rows fix of SZ make a word access. -/
theorem sz_word_of_masked : ∀ {sz : BitVec 2}, sz &&& 0b11#2 = 0b10#2 → sz = 0b10#2 := by
  decide

/-- The bits that the reserved rows fix of OFF make an aligned offset of the upper half. -/
theorem off_reserved_of_masked : ∀ {off : BitVec 6}, off &&& 0b100011#6 = 0b100000#6 →
    off.toNat % 4 = 0 ∧ off.getLsbD 5 = true := by
  decide

/-- A word that matches RD_RESERVED's row (W = 0) or WR_RESERVED's (W = 1). -/
theorem decodeBus_of_reservedMatch {w : Bool} {t : TxWord}
    (h : t &&& packTx true 0b11#2 0b100011#6 0 = packTx w 0b10#2 0b100000#6 0) :
    decodeBus t = if w then .wrReserved (txOff t) (txWdata t) else .rdReserved (txOff t) (txWdata t) := by
  simp only [masked_iff, txW_packTx, txSz_packTx, txOff_packTx, Bool.and_true] at h
  obtain ⟨rfl, hsz, hoff, -⟩ := h
  obtain ⟨haligned, hupper⟩ := off_reserved_of_masked hoff
  have haccepted : ¬ isRefused t := not_or.2 ⟨not_not.2 (sz_word_of_masked hsz), not_not.2 haligned⟩
  rw [decodeBus_of_accepted haccepted, if_pos hupper]

/-- Settles O10: the rows by their matches; both reads are `respond 0`. -/
theorem ctrlAndReservedReadsAnswerZero : Obligations.CtrlAndReservedReadsAnswerZero :=
  ⟨fun _ => decodeBus_of_match, fun _ => decodeBus_of_reservedMatch (w := false), fun _ _ _ => ⟨rfl, rfl⟩⟩

/-- Settles O19: the rows by their matches; each of the writes is `respond 0`. -/
theorem readOnlyAndReservedWritesAreIgnored : Obligations.ReadOnlyAndReservedWritesAreIgnored :=
  ⟨fun _ => decodeBus_of_match, fun _ => decodeBus_of_match, fun _ => decodeBus_of_match,
    fun _ => decodeBus_of_match, fun _ => decodeBus_of_reservedMatch (w := true),
    fun _ _ _ => ⟨rfl, rfl, rfl, rfl, rfl⟩⟩

/-! ## The values of the registers as numbers (R32 to R38) -/

/-- Concatenation as a number. -/
theorem append_toNat {m n : Nat} (x : BitVec m) (y : BitVec n) : (x ++ y).toNat = x.toNat * 2 ^ n + y.toNat := by
  rw [BitVec.toNat_append, ← Nat.shiftLeft_add_eq_or_of_lt y.isLt, Nat.shiftLeft_eq]

theorem busy_toNat (s : State) : (busy s).toNat = if s.st = .idle then 0 else 1 := by
  by_cases h : s.st = .idle
  · rw [if_pos h, (busy_eq_false_iff s).2 h]
    rfl
  · rw [if_neg h, (busy_iff s).2 h]
    rfl

/-- R32: the places of the STATUS fields. -/
theorem statusWord_toNat (s : State) : (statusWord s).toNat =
    (busy s).toNat + 2 * s.done.toNat + 4 * s.ok.toNat + 8 * s.valid.toNat + 16 * (errCode s.err).toNat
      + 256 * s.errBit.toNat := by
  simp only [statusWord, append_toNat, BitVec.toNat_ofBool, BitVec.toNat_ofNat]
  omega

/-- R268: while an acquisition runs, only BUSY and VALID can read 1. -/
theorem statusWord_toNat_of_busy {s : State} (hs : Inv s) (h : s.st ≠ .idle) :
    (statusWord s).toNat = 1 + 8 * s.valid.toNat := by
  have hb := (busy_iff s).2 h
  obtain ⟨hdone, hok, herr, hbit⟩ := hs.busyFlags hb
  rw [statusWord_toNat, hb, hdone, hok, herr, hbit]
  simp [errCode]

/-- Settles O11: `statusWord_toNat`, with R231's numbers by the seven codes; `statusWord_toNat_of_busy`. -/
theorem statusReadReturnsTheFlags : Obligations.StatusReadReturnsTheFlags := by
  refine ⟨fun _ => decodeBus_of_match, fun d s => ⟨statusWord s, rfl, ?_, statusWord_toNat_of_busy⟩⟩
  rw [statusWord_toNat, busy_toNat]
  cases s.err <;> rfl

/-- Settles O12: both registers read as their field, zero-extended. -/
theorem configReadsReturnTheFields : Obligations.ConfigReadsReturnTheFields := by
  refine ⟨fun _ => decodeBus_of_match, fun _ => decodeBus_of_match, fun d s => ?_⟩
  rw [BitVec.ofNat_toNat, BitVec.ofNat_toNat]
  exact ⟨rfl, rfl⟩

theorem byteNat_lt (f : Frame) (i : Nat) : byteNat f i < 256 :=
  Nat.mod_lt _ (by decide)

theorem frameByte_toNat_eq_byteNat (f : Frame) {i : Nat} (h : i < 5) : (frameByte f i).toNat = byteNat f i :=
  frameByte_toNat f i h

/-- R35: the bytes of DATA0, the most significant first. -/
theorem data0Word_eq_append (f : Frame) :
    data0Word f = frameByte f 3 ++ frameByte f 2 ++ frameByte f 1 ++ frameByte f 0 := rfl

theorem data0Word_toNat (f : Frame) : (data0Word f).toNat =
    byteNat f 0 + 2 ^ 8 * byteNat f 1 + 2 ^ 16 * byteNat f 2 + 2 ^ 24 * byteNat f 3 := by
  simp only [data0Word_eq_append, append_toNat, frameByte_toNat_eq_byteNat, Nat.reduceLT]
  omega

theorem data1Word_toNat (f : Frame) : (data1Word f).toNat = byteNat f 4 :=
  (BitVec.toNat_setWidth_of_le (by decide)).trans (frameByte_toNat_eq_byteNat f (i := 4) (by decide))

/-- R197: the checksum over the bytes as numbers. -/
theorem checksumGood_iff (f : Frame) : checksumGood f = true ↔
    (byteNat f 0 + byteNat f 1 + byteNat f 2 + byteNat f 3) % 256 = byteNat f 4 := by
  simp only [checksumGood, frameByte_toNat_eq_byteNat, Nat.reduceLT, beq_iff_eq]

/-- Settles O13: `data0Word_toNat` and `data1Word_toNat`; the last good frame passes the checksum. -/
theorem dataReadsReturnTheFrameBytes : Obligations.DataReadsReturnTheFrameBytes := by
  refine ⟨fun _ => decodeBus_of_match, fun _ => decodeBus_of_match, fun d s =>
    ⟨data0Word s.lf, data1Word s.lf, rfl, rfl, data0Word_toNat s.lf, data1Word_toNat s.lf, fun hs => ?_⟩⟩
  rw [data1Word_toNat, (checksumGood_iff s.lf).1 hs.lfGood]

theorem humX10_eq (f : Frame) : humX10 f = 10 * byteNat f 0 + byteNat f 1 := by
  simp only [humX10, frameByte_toNat_eq_byteNat, Nat.reduceLT]

/-- The greatest humidity is that of two bytes 255 (R201). -/
theorem humX10_le (f : Frame) : humX10 f ≤ 2805 := by
  have h0 := byteNat_lt f 0
  have h1 := byteNat_lt f 1
  rw [humX10_eq]
  omega

theorem humidityWord_toNat (f : Frame) : (humidityWord f).toNat = humX10 f := by
  have h := humX10_le f
  rw [humidityWord, BitVec.toNat_ofNat, Nat.mod_eq_of_lt (by omega)]

/-- Settles O14: HUM_X10 fits the register (`humidityWord_toNat`), and is bounded by `humX10_le`. -/
theorem humidityReadReturnsExactTenths : Obligations.HumidityReadReturnsExactTenths := by
  refine ⟨fun _ => decodeBus_of_match, fun d s => ⟨humidityWord s.lf, rfl, ?_⟩⟩
  rw [humidityWord_toNat]
  exact ⟨humX10_eq s.lf, humX10_le s.lf⟩

/-- R202: the magnitude takes the low seven bits of b3. -/
theorem tempMag_eq (f : Frame) : tempMag f = 10 * byteNat f 2 + byteNat f 3 % 128 := by
  simp only [tempMag, BitVec.extractLsb'_toNat, frameByte_toNat_eq_byteNat, Nat.reduceLT, Nat.shiftRight_zero,
    Nat.reducePow]

/-- The greatest magnitude is that of b2 = 255 and b3[6:0] = 127 (R202). -/
theorem tempMag_le (f : Frame) : tempMag f ≤ 2677 := by
  have h2 := byteNat_lt f 2
  rw [tempMag_eq]
  omega

/-- R202: the sign flag is the top bit of b3. -/
theorem tempNeg_eq (f : Frame) : tempNeg f = decide (128 ≤ byteNat f 3) := by
  have hmsb : tempNeg f = decide (128 ≤ (frameByte f 3).toNat) :=
    (BitVec.msb_eq_getLsbD_last (frameByte f 3)).symm.trans (BitVec.msb_eq_decide _)
  rw [hmsb, frameByte_toNat_eq_byteNat f (by decide)]

theorem tempX10_eq (f : Frame) : tempX10 f =
    if 128 ≤ byteNat f 3 then -((10 * byteNat f 2 + byteNat f 3 % 128 : Nat) : Int)
    else ((10 * byteNat f 2 + byteNat f 3 % 128 : Nat) : Int) := by
  simp only [tempX10, tempMag_eq, tempNeg_eq, decide_eq_true_eq]

/-- TEMP_X10 fits a signed 16-bit word. -/
theorem ofInt_tempX10_toInt (f : Frame) : (BitVec.ofInt 16 (tempX10 f)).toInt = tempX10 f := by
  have hmag := tempMag_le f
  have hbound : -2677 ≤ tempX10 f ∧ tempX10 f ≤ 2677 := by
    unfold tempX10
    split <;> omega
  exact BitVec.toInt_ofInt_eq_self (by decide) (by omega) (by omega)

theorem temperatureWord_low (f : Frame) : (temperatureWord f).extractLsb' 0 16 = BitVec.ofInt 16 (tempX10 f) :=
  BitVec.extractLsb'_append_eq_right

theorem temperatureWord_sign (f : Frame) : (temperatureWord f).getLsbD 16 = tempNeg f := by
  rw [temperatureWord, BitVec.getLsbD_append, if_neg (by decide), BitVec.getLsbD_append, if_pos (by decide)]
  cases tempNeg f <;> rfl

theorem temperatureWord_lt (f : Frame) : (temperatureWord f).toNat < 2 ^ 17 := by
  have hlow := (BitVec.ofInt 16 (tempX10 f)).isLt
  have hsign := (tempNeg f).toNat_lt
  simp only [temperatureWord, append_toNat, BitVec.toNat_ofBool, BitVec.toNat_ofNat]
  omega

/-- Settles O15: the three parts of the word, `temperatureWord_low`, `temperatureWord_sign` and
`temperatureWord_lt`, and that TEMP_X10 fits the lowest (`ofInt_tempX10_toInt`). -/
theorem temperatureReadReturnsSignedTenths : Obligations.TemperatureReadReturnsSignedTenths := by
  refine ⟨fun _ => decodeBus_of_match, fun d s =>
    ⟨temperatureWord s.lf, rfl, ?_, ?_, temperatureWord_lt s.lf⟩⟩
  · rw [temperatureWord_low, ofInt_tempX10_toInt, tempX10_eq]
  · rw [temperatureWord_sign, tempNeg_eq]

/-! ## The CTRL and the STATUS write (R102, R103, R105) -/

theorem exec_wrCtrl_start {d : Word} {s : State} (h : acceptsStart d s = true) :
    exec (.wrCtrl d) s = .next (respond 0 (startAcquisition s)) := by
  rw [exec, execWrCtrl, if_pos h]

theorem exec_wrCtrl_ignored {d : Word} {s : State} (h : ¬ acceptsStart d s = true) :
    exec (.wrCtrl d) s = .next (respond 0 s) := by
  rw [exec, execWrCtrl, if_neg h]

/-- Settles O16: an accepted START is `startAcquisition`, and a START is accepted by `acceptsStart_iff`. -/
theorem ctrlWriteStartsOnlyWhenIdle : Obligations.CtrlWriteStartsOnlyWhenIdle := by
  refine ⟨fun _ => decodeBus_of_match, fun d s => ⟨fun hd hs => ?_, fun h => ?_⟩⟩
  · exact exec_wrCtrl_start ((acceptsStart_iff d s).2 ⟨hd, hs⟩)
  · refine exec_wrCtrl_ignored fun ha => ?_
    obtain ⟨hd, hs⟩ := (acceptsStart_iff d s).1 ha
    obtain hd' | hs' := h
    · exact absurd (hd.symm.trans hd') nofun
    · exact hs' hs

/-- Settles O17: by the two values of WDATA[1]. -/
theorem statusWriteClearsDoneOnly : Obligations.StatusWriteClearsDoneOnly := by
  refine ⟨fun _ => decodeBus_of_match, fun d s => ?_⟩
  rw [exec, execWrStatus, doneClrOperand]
  cases d.getLsbD 1 with
  | false =>
    rw [Bool.not_false, Bool.and_true]
    rfl
  | true =>
    rw [Bool.not_true, Bool.and_false]
    rfl

end Sys2Proof.Machine
end

section
/-! PROOFS of the statements about the line driver (41_line_driver.md): the ticks of IDLE, START_LOW and RELEASE, a
transaction while an acquisition runs, the prescaler, and the start condition counted in cycles. -/

namespace Sys2Proof.Machine

/-! ## The ticks of IDLE, START_LOW and RELEASE (R141 to R143) -/

theorem runTicks_idle (levels : List Bool) {s : State} (h : s.st = .idle) : runTicks levels s = .next s := by
  induction levels with
  | nil => rfl
  | cons l ls ih => rw [runTicks_cons, runTick_idle h, andThen_next, ih]

/-- Settles O28, by induction on the levels: an idle tick answers the same state. -/
theorem idleTicksChangeNothing : Obligations.IdleTicksChangeNothing :=
  ⟨fun _ => rfl, fun levels _ h => runTicks_idle levels h⟩

/-- R142: the last tick of the LOW drive. -/
theorem execTickStartLow_last {s : State} (h : s.cnt.toNat + 1 = s.startLowMs.toNat * 1000) :
    execTickStartLow s = .next { s with st := .release, cnt := 0 } := if_pos h

/-- R142: every other tick of the LOW drive. -/
theorem execTickStartLow_inner {s : State} (h : s.cnt.toNat + 1 ≠ s.startLowMs.toNat * 1000) :
    execTickStartLow s = .next { s with cnt := s.cnt + 1 } := if_neg h

/-- The longest LOW drive, 255 ms, fits the counter (R41). -/
theorem startLow_cnt_succ_toNat {s : State} (h : s.cnt.toNat + 1 < s.startLowMs.toNat * 1000) :
    (s.cnt + 1).toNat = s.cnt.toNat + 1 := by
  have hN := s.startLowMs.isLt
  exact cnt_succ_toNat (by omega)

/-- Ticks that do not reach the end of the LOW drive only count, without a wrap. -/
theorem runTicks_startLow (levels : List Bool) {s : State} (h : s.st = .startLow)
    (hlt : s.cnt.toNat + levels.length < s.startLowMs.toNat * 1000) :
    ∃ c : BitVec 18, c.toNat = s.cnt.toNat + levels.length ∧ runTicks levels s = .next { s with cnt := c } := by
  induction levels generalizing s with
  | nil => exact ⟨s.cnt, rfl, rfl⟩
  | cons l ls ih =>
    rw [List.length_cons] at hlt
    have hsucc := startLow_cnt_succ_toNat (s := s) (by omega)
    have hlt' : (s.cnt + 1).toNat + ls.length < s.startLowMs.toNat * 1000 := by omega
    obtain ⟨c, hc, hrun⟩ := ih (s := { s with cnt := s.cnt + 1 }) h hlt'
    refine ⟨c, by rw [hc, hsucc, List.length_cons, Nat.add_right_comm, Nat.add_assoc], ?_⟩
    rw [runTicks_cons, runTick_startLow h, execTickStartLow_inner (by omega), andThen_next, hrun]

/-- Exactly START_LOW_MS * 1000 ticks end the LOW drive: all but the last only count. -/
theorem runTicks_startLow_exact {levels : List Bool} {s : State} (h : s.st = .startLow) (hc : s.cnt = 0)
    (hN : 1 ≤ s.startLowMs.toNat) (hlen : levels.length = s.startLowMs.toNat * 1000) :
    runTicks levels s = .next { s with st := .release, cnt := 0 } := by
  obtain ⟨ls, l, rfl, hls⟩ :=
    exists_append_singleton (n := s.startLowMs.toNat * 1000 - 1) (ls := levels) (by omega)
  have h0 : s.cnt.toNat = 0 := by rw [hc]; rfl
  obtain ⟨c, hcount, hrun⟩ := runTicks_startLow ls h (by omega)
  have hlast : c.toNat + 1 = s.startLowMs.toNat * 1000 := by omega
  rw [runTicks_append, hrun, andThen_next, runTicks_cons, runTick_startLow (s := { s with cnt := c }) h,
    execTickStartLow_last (s := { s with cnt := c }) hlast, andThen_next, runTicks_nil]

/-- Settles O29: one tick by its two equations; a run by `runTicks_startLow` and `runTicks_startLow_exact`. -/
theorem startLowLastsItsTicks : Obligations.StartLowLastsItsTicks := by
  refine ⟨fun s => ⟨execTickStartLow_last, execTickStartLow_inner⟩, fun levels s h hc => ?_⟩
  have h0 : s.cnt.toNat = 0 := by rw [hc]; rfl
  refine ⟨fun hlt => ?_, runTicks_startLow_exact h hc⟩
  obtain ⟨c, hcount, hrun⟩ := runTicks_startLow levels h (by omega)
  exact ⟨c, by omega, hrun⟩

/-- Settles O30: the line is driven by `dqOe_iff` and `dqO_iff`, the tick is `runTick_release`. -/
theorem releaseTickEntersPhaseZero : Obligations.ReleaseTickEntersPhaseZero := fun s =>
  ⟨rfl, fun h => ⟨(dqOe_iff s).2 (.inr h), (dqO_iff s).2 h, fun _ => ⟨_, runTick_release h, rfl, rfl, rfl⟩⟩⟩

/-! ## Transactions while an acquisition runs (R144, R146) -/

/-- Settles O26, by what a transaction can do while busy (`HostEffect.busy`). -/
theorem busyTransactionsOnlyClearDone : Obligations.BusyTransactionsOnlyClearDone :=
  fun _ _ _ hb h => (runTransaction_effect h).busy hb

/-! ## The prescaler (R140) -/

/-- R140: the last value of PRESC, without a subtraction. -/
theorem presc_last_iff (n : Nat) : n = Config.clkPerUs - 1 ↔ n + 1 = Config.clkPerUs :=
  eq_tsub_iff_add_eq_of_le (Nat.succ_pos _)

/-- R140: the edge at PRESC's last value has a tick. -/
theorem clockEdge_last (dq : Bool) {s : State} (h : s.presc + 1 = Config.clkPerUs) :
    clockEdge dq false s = runTick (synchronised dq s) { clockSync dq s with presc := 0 } :=
  prescale_last (s := clockSync dq s) ((presc_last_iff _).2 h)

/-- R140: the edge at another value of PRESC only counts. -/
theorem clockEdge_inner (dq : Bool) {s : State} (h : s.presc + 1 ≠ Config.clkPerUs) :
    clockEdge dq false s = .next { clockSync dq s with presc := s.presc + 1 } :=
  prescale_inner (s := clockSync dq s) (mt (presc_last_iff _).1 h)

/-- A cycle without reset or transaction is its clock edge. -/
theorem runCycle_quiet (ext : Bool) (s : State) :
    runCycle ⟨true, none, ext⟩ s = clockEdge (lineLevel s ext) false s := rfl

/-- Settles O55, by the two cases of the clock edge. -/
theorem prescalerMakesTheTicks : Obligations.PrescalerMakesTheTicks := fun ext s =>
  ⟨_, _, rfl, rfl, fun h => (runCycle_quiet ext s).trans (clockEdge_last _ h),
    fun h => (runCycle_quiet ext s).trans (clockEdge_inner _ h)⟩

/-! ## The start condition in cycles (R145, R272) -/

/-- `n` cycles after the one that accepted a START with START_LOW_MS * 1000 = `N`: `n` is CLK_PER_US for each tick
counted and PRESC for the tick under way. -/
inductive StartCondition (N n : Nat) (s : State) : Prop where
  | low : s.st = .startLow → s.startLowMs.toNat * 1000 = N → s.cnt.toNat < N → s.presc < Config.clkPerUs →
      n = s.cnt.toNat * Config.clkPerUs + s.presc → StartCondition N n s
  | high : s.st = .release → s.presc < Config.clkPerUs → n = N * Config.clkPerUs + s.presc → StartCondition N n s
  | released : s.st = .wait → s.ph = 0 → s.cnt = 0 → s.presc = 0 → n = (N + 1) * Config.clkPerUs →
      StartCondition N n s

/-- R103: the cycle that accepts a START ends with the LOW drive at its beginning. -/
theorem runCycle_acceptsStart {t : TxWord} {d : Word} {s : State} (ext : Bool) (hs : Inv s) (hi : s.st = .idle)
    (ht : decodeBus t = .wrCtrl d) (hd : d.getLsbD 0 = true) :
    ∃ u, runCycle ⟨true, some t, ext⟩ s = .next u ∧ StartCondition (s.startLowMs.toNat * 1000) 0 u := by
  have hstart : runTransaction t s = .next (respond 0 (startAcquisition s)) := by
    rw [runTransaction, ht, exec_wrCtrl_start ((acceptsStart_iff d s).2 ⟨hd, hi⟩)]
  have hacc : isAcceptedStart t s = true := (isAcceptedStart_iff t s).2 ⟨d, ht, hd, hi⟩
  rw [runCycle_transaction, hstart, andThen_next, hacc, clockEdge_start]
  exact ⟨_, rfl, .low rfl rfl (Nat.mul_pos hs.startLowLegal (by decide)) (Nat.succ_pos _) (Nat.zero_mul _).symm⟩

/-- While busy, a cycle at PRESC's last value is a tick, from a state with another DONE, answer and synchroniser. -/
theorem runCycle_busy_last {p : Pins} {s : State} (hr : p.rstN = true) (hb : s.st ≠ .idle)
    (h : s.presc + 1 = Config.clkPerUs) :
    ∃ l dn v e n, runCycle p s =
      runTick l { s with done := dn, rdata := v, busErr := e, sync := n, presc := 0 } := by
  obtain ⟨dn, v, e, dq, hcycle⟩ := runCycle_busy hr hb
  exact ⟨_, dn, v, e, _, hcycle.trans (clockEdge_last dq h)⟩

/-- While busy, a cycle at another value of PRESC changes that, DONE, the answer and the synchroniser only. -/
theorem runCycle_busy_inner {p : Pins} {s : State} (hr : p.rstN = true) (hb : s.st ≠ .idle)
    (h : s.presc + 1 ≠ Config.clkPerUs) :
    ∃ dn v e n, runCycle p s =
      .next { s with done := dn, rdata := v, busErr := e, sync := n, presc := s.presc + 1 } := by
  obtain ⟨dn, v, e, dq, hcycle⟩ := runCycle_busy hr hb
  exact ⟨dn, v, e, _, hcycle.trans (clockEdge_inner dq h)⟩

/-- A cycle of the LOW drive counts in PRESC, counts a tick, or begins the HIGH drive. -/
theorem StartCondition.cycle_low {N n : Nat} {s : State} {p : Pins} (hr : p.rstN = true) (hst : s.st = .startLow)
    (hN : s.startLowMs.toNat * 1000 = N) (hc : s.cnt.toNat < N) (hp : s.presc < Config.clkPerUs)
    (hn : n = s.cnt.toNat * Config.clkPerUs + s.presc) :
    ∃ u, runCycle p s = .next u ∧ StartCondition N (n + 1) u := by
  have hb : s.st ≠ .idle := by rw [hst]; nofun
  by_cases hlast : s.presc + 1 = Config.clkPerUs
  · have hn' : n + 1 = (s.cnt.toNat + 1) * Config.clkPerUs := by rw [Nat.succ_mul]; omega
    obtain ⟨l, dn, v, e, m, hcycle⟩ := runCycle_busy_last hr hb hlast
    have htick := hcycle.trans (runTick_startLow hst)
    by_cases hend : s.cnt.toNat + 1 = N
    · exact ⟨_, htick.trans (execTickStartLow_last (hend.trans hN.symm)),
        .high rfl (Nat.succ_pos _) (hend ▸ hn')⟩
    · have hsucc := startLow_cnt_succ_toNat (s := s) (by omega)
      have hlt : (s.cnt + 1).toNat < N := by omega
      exact ⟨_, htick.trans (execTickStartLow_inner fun he => hend (he.trans hN)),
        .low hst hN hlt (Nat.succ_pos _) (hsucc ▸ hn')⟩
  · obtain ⟨dn, v, e, m, hcycle⟩ := runCycle_busy_inner hr hb hlast
    exact ⟨_, hcycle, .low hst hN hc (Nat.lt_of_le_of_ne hp hlast) (congrArg (· + 1) hn)⟩

/-- A cycle of the HIGH drive counts in PRESC or releases the line. -/
theorem StartCondition.cycle_high {N n : Nat} {s : State} {p : Pins} (hr : p.rstN = true) (hst : s.st = .release)
    (hp : s.presc < Config.clkPerUs) (hn : n = N * Config.clkPerUs + s.presc) :
    ∃ u, runCycle p s = .next u ∧ StartCondition N (n + 1) u := by
  have hb : s.st ≠ .idle := by rw [hst]; nofun
  by_cases hlast : s.presc + 1 = Config.clkPerUs
  · have hn' : n + 1 = (N + 1) * Config.clkPerUs := by rw [Nat.succ_mul]; omega
    obtain ⟨l, dn, v, e, m, hcycle⟩ := runCycle_busy_last hr hb hlast
    exact ⟨_, hcycle.trans (runTick_release hst), .released rfl rfl rfl rfl hn'⟩
  · obtain ⟨dn, v, e, m, hcycle⟩ := runCycle_busy_inner hr hb hlast
    exact ⟨_, hcycle, .high hst (Nat.lt_of_le_of_ne hp hlast) (congrArg (· + 1) hn)⟩

/-- The start condition advances by one in every cycle until the line is released, whatever the pins but reset. -/
theorem StartCondition.cycle {N n : Nat} {s : State} {p : Pins} (h : StartCondition N n s) (hr : p.rstN = true)
    (hlt : n < (N + 1) * Config.clkPerUs) : ∃ u, runCycle p s = .next u ∧ StartCondition N (n + 1) u := by
  cases h with
  | low hst hN hc hp hn => exact cycle_low hr hst hN hc hp hn
  | high hst hp hn => exact cycle_high hr hst hp hn
  | released _ _ _ _ hn => exact absurd hlt (Nat.not_lt.2 hn.ge)

/-- `pins.length` further cycles advance the start condition by as many, as long as they do not pass its end. -/
theorem StartCondition.cycles {N n : Nat} {s : State} (pins : List Pins) (h : StartCondition N n s)
    (hr : ∀ p ∈ pins, p.rstN = true) (hle : n + pins.length ≤ (N + 1) * Config.clkPerUs) :
    ∃ u, runCycles pins s = .next u ∧ StartCondition N (n + pins.length) u := by
  induction pins generalizing n s with
  | nil => exact ⟨s, rfl, h⟩
  | cons p ps ih =>
    rw [List.forall_mem_cons] at hr
    rw [List.length_cons, ← Nat.add_assoc, Nat.add_right_comm] at hle ⊢
    obtain ⟨v, hv, hcond⟩ := h.cycle hr.1 (by omega)
    rw [runCycles_cons, hv, andThen_next]
    exact ih hcond hr.2 hle

/-- The LOW drive covers the first N*P cycles: `r` cycles into the tick after `c` whole ones. -/
theorem low_cycle_lt {N c r P : Nat} (hc : c < N) (hr : r < P) : c * P + r < N * P := by
  calc c * P + r < c * P + P := Nat.add_lt_add_left hr _
    _ = (c + 1) * P := (Nat.succ_mul c P).symm
    _ ≤ N * P := Nat.mul_le_mul_right P hc

/-- What the number of cycles says of the state. -/
theorem StartCondition.st_of_cycles {N n : Nat} {s : State} (h : StartCondition N n s) :
    (n < N * Config.clkPerUs → s.st = .startLow) ∧
    (N * Config.clkPerUs ≤ n → n < (N + 1) * Config.clkPerUs → s.st = .release) ∧
    (n = (N + 1) * Config.clkPerUs → s.st = .wait ∧ s.ph = 0 ∧ s.cnt = 0 ∧ s.presc = 0) := by
  have hP : (N + 1) * Config.clkPerUs = N * Config.clkPerUs + Config.clkPerUs := Nat.succ_mul ..
  cases h with
  | low hst _ hc hp hn =>
    have hlt := low_cycle_lt hc hp
    exact ⟨fun _ => hst, by omega, by omega⟩
  | high hst hp hn => exact ⟨by omega, fun _ _ => hst, by omega⟩
  | released hst hph hcnt hpresc hn => exact ⟨by omega, by omega, fun _ => ⟨hst, hph, hcnt, hpresc⟩⟩

/-- Settles O31: the START begins the start condition, every further cycle advances it (`StartCondition.cycles`), and
the outputs follow the state. -/
theorem startConditionHasItsCycleLengths : Obligations.StartConditionHasItsCycleLengths := by
  intro s t d ext pins hs hi ht hd hr N P hle
  obtain ⟨v, hv, hcond⟩ := runCycle_acceptsStart ext hs hi ht hd
  obtain ⟨u, hu, hcond⟩ := hcond.cycles pins hr ((Nat.zero_add _).trans_le hle)
  rw [Nat.zero_add] at hcond
  obtain ⟨hlow, hhigh, hreleased⟩ := hcond.st_of_cycles
  refine ⟨u, by rw [runCycles_cons, hv, andThen_next, hu], fun h => ?_, fun h h' => ?_, fun h => ?_⟩
  · simp [dqOe, dqO, hlow h]
  · simp [dqOe, dqO, hhigh h h']
  · obtain ⟨hst, hrest⟩ := hreleased h
    exact ⟨by simp [dqOe, hst], hst, hrest⟩

end Sys2Proof.Machine
end

section
/-! PROOFS of the statements about the waits (42_capture.md): a tick of a wait and of its two ends, the samples of one
phase, a waveform captured pulse by pulse, and the bound on the remaining ticks. -/

namespace Sys2Proof.Machine

/-! ## One tick of a wait (R162, R165 to R168) -/

/-- R162: a sample at the phase's level within the budget. -/
theorem execTickWait_within {s : State} (hl : s.dqS = phaseLevel s.ph) (hc : s.cnt.toNat + 1 < s.timeoutUs.toNat) :
    execTickWait s = .next { s with cnt := s.cnt + 1 } := by
  rw [execTickWait, if_pos hl, if_neg (Nat.not_le_of_lt hc)]

/-- R162: the sample at the phase's level that uses up the budget. -/
theorem execTickWait_budget {s : State} (hl : s.dqS = phaseLevel s.ph)
    (hc : s.timeoutUs.toNat ≤ s.cnt.toNat + 1) : execTickWait s = phaseTimeout s := by
  rw [execTickWait, if_pos hl, if_pos hc]

/-- R162: a sample at the other level. -/
theorem execTickWait_transition {s : State} (hl : s.dqS ≠ phaseLevel s.ph) :
    execTickWait s = phaseDone s.cnt s := by
  rw [execTickWait, if_neg hl]

/-- Settles O32: the three kinds of sample, with the two ends of a handshake phase. -/
theorem handshakePhaseEndsByTransitionOrFailure : Obligations.HandshakePhaseEndsByTransitionOrFailure := by
  intro s hph
  rw [← phaseLevel_eq]
  refine ⟨execTickWait_within, fun hl => ?_, fun hl hc => ?_⟩
  · exact (execTickWait_transition hl).trans (phaseDone_handshake hph _)
  · exact (execTickWait_budget hl hc).trans (phaseTimeout_handshake hph)

/-- Settles O33: the three kinds of sample, with the two ends of a capture phase, which is the last one or not. -/
theorem capturePhaseRecordsWidthOrSentinel : Obligations.CapturePhaseRecordsWidthOrSentinel := by
  intro s i hph
  rw [← phaseLevel_eq]
  have hdone (hl : s.dqS ≠ phaseLevel s.ph) := (execTickWait_transition hl).trans (phaseDone_capture i.isLt hph _)
  have hgone (hl : s.dqS = phaseLevel s.ph) (hc : s.timeoutUs.toNat ≤ s.cnt.toNat + 1) :=
    (execTickWait_budget hl hc).trans (phaseTimeout_capture i.isLt hph)
  refine ⟨execTickWait_within, fun hl hi => ?_, fun hl hi => ?_, fun hl hc hi => ?_, fun hl hc hi => ?_⟩
  · exact (hdone hl).trans (congrArg _ (advanceCapture_inner (by dsimp only; omega) 1))
  · exact (hdone hl).trans (congrArg _ (advanceCapture_last (by dsimp only; omega) 1))
  · exact (hgone hl hc).trans (congrArg _ (advanceCapture_inner (by dsimp only; omega) 0))
  · exact (hgone hl hc).trans (congrArg _ (advanceCapture_last (by dsimp only; omega) 0))

/-! ## A tick in state WAIT, and the samples of one phase (R163, R173) -/

/-- A run of samples after another one. -/
theorem runTicks_trans {ls ms : List Bool} {s t u : State} (h : runTicks ls s = .next t)
    (h' : runTicks ms t = .next u) : runTicks (ls ++ ms) s = .next u := by
  rw [runTicks_append, h, andThen_next, h']

/-- A run of one sample is its tick. -/
theorem runTicks_one {l : Bool} {s u : State} (h : runTick l s = .next u) : runTicks [l] s = .next u := by
  rw [runTicks_cons, h, andThen_next, runTicks_nil]

/-- R162: the tick that uses up the budget. -/
theorem runTick_budget {s : State} {l : Bool} (h : s.st = .wait) (hl : l = phaseLevel s.ph)
    (hc : s.timeoutUs.toNat ≤ s.cnt.toNat + 1) : runTick l s = phaseTimeout { s with dqS := l } :=
  (runTick_wait h).trans (execTickWait_budget (s := { s with dqS := l }) hl hc)

/-- R165: the tick at which the line has left the level of a handshake phase. -/
theorem runTick_endsHandshake {s : State} {l : Bool} (h : s.st = .wait) (hl : l ≠ phaseLevel s.ph)
    (hph : s.ph.toNat ≤ 2) : runTick l s = .next { s with dqS := l, ph := s.ph + 1, cnt := 1 } := by
  rw [runTick_wait h, execTickWait_transition (s := { s with dqS := l }) hl,
    phaseDone_handshake (s := { s with dqS := l }) hph]

/-- R167: the tick at which the line has left the level of a capture phase. -/
theorem runTick_endsCapture {s : State} {l : Bool} {i : Nat} (h : s.st = .wait) (hl : l ≠ phaseLevel s.ph)
    (hi : i < 80) (hph : s.ph.toNat = i + 3) :
    runTick l s = .next
      (advanceCapture 1 { s with dqS := l, pw := s.pw.set i (some (s.cnt.setWidth 16)) hi }) := by
  rw [runTick_wait h, execTickWait_transition (s := { s with dqS := l }) hl,
    phaseDone_capture (s := { s with dqS := l }) hi hph]

/-- A count within the budget is recorded in full: a width has the 16 bits of TIMEOUT_US. -/
theorem recordedWidth_toNat {c : BitVec 18} {n : Nat} {T : BitVec 16} (hc : c.toNat = n) (hn : n < T.toNat) :
    (c.setWidth 16).toNat = n := by
  rw [BitVec.toNat_setWidth, hc, Nat.mod_eq_of_lt (hn.trans T.isLt)]

theorem advanceCapture_pw (c : BitVec 18) (s : State) : (advanceCapture c s).pw = s.pw := by
  rw [advanceCapture_frame]

/-- R163: samples at the level of capture phase `i + 3` up to `n` in all, and one at the other level, record the
count `n`. -/
theorem runTicks_capturePhase {s : State} {i n : Nat} (hst : s.st = .wait) (hi : i < 80) (hph : s.ph.toNat = i + 3)
    (hle : s.cnt.toNat ≤ n) (hn : n < s.timeoutUs.toNat) :
    ∃ c : BitVec 18, c.toNat = n ∧
      runTicks (List.replicate (n - s.cnt.toNat) (phaseLevel s.ph) ++ [!phaseLevel s.ph]) s =
        .next (advanceCapture 1
          { s with cnt := c, dqS := !phaseLevel s.ph, pw := s.pw.set i (some (c.setWidth 16)) hi }) := by
  obtain ⟨c, hc, q, hcount⟩ := runTicks_waitCount (n - s.cnt.toNat) s hst (by omega)
  have hend := runTick_endsCapture (s := { s with cnt := c, dqS := q }) hst (Bool.not_ne_self _) hi hph
  exact ⟨c, by omega, runTicks_trans hcount (runTicks_one hend)⟩

/-- R167: after a capture phase below 82 comes the next one. -/
theorem advanceCapture_nextPhase {s : State} {c : BitVec 18} {p : Nat} (hst : s.st = .wait) (hph : s.ph.toNat = p)
    (hp : p < 82) :
    (advanceCapture c s).st = .wait ∧ (advanceCapture c s).ph.toNat = p + 1 ∧ (advanceCapture c s).cnt = c := by
  subst hph
  rw [advanceCapture_inner hp]
  exact ⟨hst, ph_succ_toNat hp.le, rfl⟩

/-- R169: after phase 82 comes DECODE, at bit 0. -/
theorem advanceCapture_decode {s : State} {c : BitVec 18} (hph : s.ph.toNat = 82) :
    (advanceCapture c s).st = .decode ∧ (advanceCapture c s).k = 0 := by
  rw [advanceCapture_last hph]
  exact ⟨rfl, rfl⟩

/-- Settles O34: the phase records the count (`runTicks_capturePhase`), and the next phase or DECODE follows. -/
theorem recordedWidthIsTheSampleCount : Obligations.RecordedWidthIsTheSampleCount := by
  intro s i n hst hi hph hle hn
  rw [← phaseLevel_eq]
  obtain ⟨c, hc, hrun⟩ := runTicks_capturePhase hst hi hph hle hn
  refine ⟨_, hrun, ?_, ?_, fun j _ hji => ?_, fun hlt => ?_, fun hlast => ?_⟩
  · rw [advanceCapture_pw, isWritten_set, if_pos rfl]
  · rw [advanceCapture_pw, pulseAt_set, if_pos rfl, recordedWidth_toNat hc hn]
  · rw [advanceCapture_pw]
    exact Vector.getElem?_set_ne hi hji.symm
  · exact advanceCapture_nextPhase (p := i + 3) hst hph (by omega)
  · exact advanceCapture_decode (hph.trans (by omega))

/-- R166: phase 0 fails with HS_RESPONSE. -/
theorem phaseTimeout_zero {s : State} (h : s.ph = 0) : phaseTimeout s = .next (completeFail .hsResponse 0 s) := by
  simp [phaseTimeout, h]

/-- Settles O36: all samples but the last of the budget only count (`runTicks_waitCount`), and that one fails
phase 0. -/
theorem silentSensorFailsAfterTheBudget : Obligations.SilentSensorFailsAfterTheBudget := by
  intro s hst hph hcnt hT
  have hlevel : phaseLevel s.ph = true := by rw [hph]; rfl
  have hzero : s.cnt.toNat = 0 := by rw [hcnt]; rfl
  have hcount : ∀ n < s.timeoutUs.toNat, ∃ c : BitVec 18, c.toNat = n ∧ ∃ q : Bool,
      runTicks (List.replicate n true) s = .next { s with cnt := c, dqS := q } := by
    intro n hn
    have h := runTicks_waitCount n s hst
    rw [hzero, hlevel, Nat.zero_add] at h
    exact h hn
  refine ⟨hcount, ?_⟩
  obtain ⟨n, hn⟩ := Nat.exists_eq_add_of_le' (Nat.le_of_succ_le hT)
  obtain ⟨c, hc, q, hrun⟩ := hcount n (by omega)
  have hlast := (runTick_budget (s := { s with cnt := c, dqS := q }) hst hlevel.symm (hc.symm ▸ hn.le)).trans
    (phaseTimeout_zero hph)
  rw [hn, List.replicate_succ']
  exact ⟨_, runTicks_trans hrun (runTicks_one hlast), rfl, rfl, rfl, rfl, rfl, rfl, rfl, rfl⟩

/-! ## A waveform captured pulse by pulse (R174) -/

/-- PW[i] holds the length of the pulse of phase `i + 3`, for the first `n` pulses. -/
def recordsWidths (w : Nat → Nat) (n : Nat) (pw : Vector (Option Width) 80) : Prop :=
  ∀ i < n, isWritten pw i = true ∧ (pulseAt pw i).toNat = w (i + 3)

theorem recordsWidths.set {w : Nat → Nat} {n : Nat} {pw : Vector (Option Width) 80} (h : recordsWidths w n pw)
    (hn : n < 80) {v : Width} (hv : v.toNat = w (n + 3)) : recordsWidths w (n + 1) (pw.set n (some v) hn) := by
  intro i hi
  rw [isWritten_set, pulseAt_set]
  by_cases hni : n = i
  · rw [if_pos hni, if_pos hni]
    exact ⟨rfl, hni ▸ hv⟩
  · rw [if_neg hni, if_neg hni]
    exact h i (by omega)

/-- `s0` in phase `p` of WAIT, with `n` samples of its pulse counted and the pulses before it, whose lengths `w`
gives phase by phase, recorded. -/
inductive Measuring (s0 : State) (w : Nat → Nat) (p n : Nat) : State → Prop where
  | intro (q : Bool) (f : BitVec 7) (c : BitVec 18) (pw : Vector (Option Width) 80) : f.toNat = p → c.toNat = n →
      recordsWidths w (p - 3) pw → Measuring s0 w p n { s0 with dqS := q, ph := f, cnt := c, pw := pw }

/-- R161: neighbouring phases wait on different levels. -/
theorem phaseLevel_ne_next {f : BitVec 7} {p : Nat} (hf : f.toNat = p) :
    decide ((p + 1) % 2 = 0) ≠ phaseLevel f := by
  rw [phaseLevel_eq, hf, ne_eq, decide_eq_decide]
  omega

/-- The pulse of every phase ends within the budget, and the pulses after phase 0 have a sample (R174). -/
structure FitsBudget (T : Nat) (w : Nat → Nat) : Prop where
  first : w 0 < T
  next : ∀ p < 82, 1 ≤ w (p + 1) ∧ w (p + 1) < T

theorem FitsBudget.lt {T : Nat} {w : Nat → Nat} (h : FitsBudget T w) : ∀ p ≤ 82, w p < T
  | 0, _ => h.first
  | p + 1, hp => (h.next p hp).2

section Waveform

variable {s0 s : State} {w : Nat → Nat} {p : Nat}

/-- R165, R167: the first sample of the next pulse ends the phase and is counted in the next one. -/
theorem Measuring.transition (h : Measuring s0 w p (w p) s) (hst : s0.st = .wait) (hp : p < 82)
    (hw : w p < s0.timeoutUs.toNat) :
    ∃ u, runTick (decide ((p + 1) % 2 = 0)) s = .next u ∧ Measuring s0 w (p + 1) 1 u := by
  obtain ⟨q, f, c, pw, hf, hc, hpw⟩ := h
  have hsucc : (f + 1).toNat = p + 1 :=
    (ph_succ_toNat (s := { s0 with ph := f }) (hf.trans_le hp.le)).trans (congrArg (· + 1) hf)
  by_cases hshake : p ≤ 2
  · refine ⟨_, runTick_endsHandshake hst (phaseLevel_ne_next hf) (hf.trans_le hshake),
      .intro _ _ _ _ hsucc rfl fun i hi => ?_⟩
    omega
  · obtain ⟨i, rfl⟩ : ∃ i, p = i + 3 := ⟨p - 3, by omega⟩
    have hi : i < 80 := by omega
    have htick := runTick_endsCapture (s := { s0 with dqS := q, ph := f, cnt := c, pw := pw }) hst
      (phaseLevel_ne_next hf) hi hf
    rw [advanceCapture_inner (hf.trans_lt hp)] at htick
    exact ⟨_, htick, .intro _ _ _ _ hsucc rfl (hpw.set hi (recordedWidth_toNat hc hw))⟩

/-- R162: further samples of the pulse are counted. -/
theorem Measuring.samples {n : Nat} (h : Measuring s0 w p n s) (hst : s0.st = .wait) (k : Nat)
    (hk : n + k < s0.timeoutUs.toNat) :
    ∃ u, runTicks (List.replicate k (decide (p % 2 = 0))) s = .next u ∧ Measuring s0 w p (n + k) u := by
  obtain ⟨q, f, c, pw, hf, rfl, hpw⟩ := h
  obtain ⟨c', hc', q', hrun⟩ := runTicks_waitCount k { s0 with dqS := q, ph := f, cnt := c, pw := pw } hst hk
  rw [phaseLevel_eq, hf] at hrun
  exact ⟨_, hrun, .intro _ _ _ _ hf hc' hpw⟩

/-- A whole pulse: its first sample ends the phase before, the others are counted. -/
theorem Measuring.pulse (h : Measuring s0 w p (w p) s) (hst : s0.st = .wait) (hp : p < 82)
    (hw : FitsBudget s0.timeoutUs.toNat w) :
    ∃ u, runTicks (List.replicate (w (p + 1)) (decide ((p + 1) % 2 = 0))) s = .next u ∧
      Measuring s0 w (p + 1) (w (p + 1)) u := by
  obtain ⟨hpos, hnext⟩ := hw.next p hp
  obtain ⟨k, hk⟩ := Nat.exists_eq_add_of_le hpos
  obtain ⟨v, hv, hmeas⟩ := h.transition hst hp (hw.lt p hp.le)
  obtain ⟨u, hu, hmeas⟩ := hmeas.samples hst k (hk ▸ hnext)
  rw [hk, Nat.add_comm 1 k, List.replicate_succ, runTicks_cons, hv, andThen_next, Nat.add_comm k 1]
  exact ⟨u, hu, hmeas⟩

/-- A bit of the frame: its LOW marker, then its HIGH data pulse. -/
theorem Measuring.bit {k : Nat} (h : Measuring s0 w (2 * k + 2) (w (2 * k + 2)) s) (hst : s0.st = .wait) (hk : k < 40)
    (hw : FitsBudget s0.timeoutUs.toNat w) :
    ∃ u, runTicks (List.replicate (w (2 * k + 3)) false ++ List.replicate (w (2 * k + 4)) true) s = .next u ∧
      Measuring s0 w (2 * k + 4) (w (2 * k + 4)) u := by
  obtain ⟨v, hv, hmarker⟩ := h.pulse hst (by omega) hw
  obtain ⟨u, hu, hdata⟩ := hmarker.pulse hst (by omega) hw
  rw [decide_eq_false (by omega)] at hv
  rw [decide_eq_true (by omega)] at hu
  exact ⟨u, runTicks_trans hv hu, hdata⟩

/-- The first `n` bits of the frame, by induction on `n`. -/
theorem Measuring.bits {n : Nat} (h : Measuring s0 w 2 (w 2) s) (hst : s0.st = .wait) (hn : n ≤ 40)
    (hw : FitsBudget s0.timeoutUs.toNat w) :
    ∃ u, runTicks ((List.range n).flatMap fun k =>
        List.replicate (w (2 * k + 3)) false ++ List.replicate (w (2 * k + 4)) true) s = .next u ∧
      Measuring s0 w (2 * n + 2) (w (2 * n + 2)) u := by
  induction n with
  | zero => exact ⟨s, rfl, h⟩
  | succ n ih =>
    obtain ⟨v, hv, hmeas⟩ := ih (Nat.le_of_succ_le hn)
    obtain ⟨u, hu, hmeas⟩ := hmeas.bit hst hn hw
    rw [List.range_succ, List.flatMap_append, List.flatMap_singleton]
    exact ⟨u, runTicks_trans hv hu, hmeas⟩

/-- R167, R169: the LOW sample after the last data pulse ends phase 82, with all 80 pulses recorded. -/
theorem Measuring.decode (h : Measuring s0 w 82 (w 82) s) (hst : s0.st = .wait)
    (hw : w 82 < s0.timeoutUs.toNat) :
    ∃ u, runTicks [false] s = .next u ∧ u = { s0 with
      dqS := u.dqS, ph := u.ph, cnt := u.cnt, pw := u.pw, st := .decode, k := 0 } ∧ recordsWidths w 80 u.pw := by
  obtain ⟨q, f, c, pw, hf, hc, hpw⟩ := h
  have htick := runTick_endsCapture (s := { s0 with dqS := q, ph := f, cnt := c, pw := pw }) hst
    (phaseLevel_ne_next hf) (i := 79) (by decide) hf
  rw [advanceCapture_last hf] at htick
  exact ⟨_, runTicks_one htick, rfl, hpw.set (by decide) (recordedWidth_toNat hc hw)⟩

/-- R174's waveform, from phase 0 with nothing counted to DECODE. -/
theorem runTicks_cleanWaveform (hst : s.st = .wait) (hph : s.ph = 0) (hcnt : s.cnt = 0)
    (hw : FitsBudget s.timeoutUs.toNat w) :
    ∃ u, runTicks (cleanWaveform (w 0) (w 1) (w 2) (fun k => w (2 * k + 3)) fun k => w (2 * k + 4)) s = .next u ∧
      u = { s with dqS := u.dqS, ph := u.ph, cnt := u.cnt, pw := u.pw, st := .decode, k := 0 } ∧
      recordsWidths w 80 u.pw := by
  have hstart : Measuring s w 0 0 s :=
    .intro s.dqS s.ph s.cnt s.pw (congrArg _ hph) (congrArg _ hcnt) fun _ hi => absurd hi (Nat.not_lt_zero _)
  obtain ⟨s1, h1, hmeas⟩ := hstart.samples hst (w 0) (by rw [Nat.zero_add]; exact hw.first)
  rw [Nat.zero_add] at hmeas
  obtain ⟨s2, h2, hmeas⟩ := hmeas.pulse hst (by decide) hw
  obtain ⟨s3, h3, hmeas⟩ := hmeas.pulse hst (by decide) hw
  obtain ⟨s4, h4, hmeas⟩ := hmeas.bits hst (n := 40) le_rfl hw
  obtain ⟨u, hu, hdecode⟩ := hmeas.decode hst (hw.next 81 (by decide)).2
  exact ⟨u, runTicks_trans (runTicks_trans (runTicks_trans (runTicks_trans h1 h2) h3) h4) hu, hdecode⟩

end Waveform

/-- The lengths of R174's pulses, phase by phase. -/
def waveformLength (a0 a1 a2 : Nat) (m d : Nat → Nat) : Nat → Nat
  | 0 => a0
  | 1 => a1
  | 2 => a2
  | i + 3 => if i % 2 = 0 then m (i / 2) else d (i / 2)

theorem waveformLength_marker (a0 a1 a2 : Nat) (m d : Nat → Nat) (k : Nat) :
    waveformLength a0 a1 a2 m d (2 * k + 3) = m k := by
  simp [waveformLength]

theorem waveformLength_data (a0 a1 a2 : Nat) (m d : Nat → Nat) (k : Nat) :
    waveformLength a0 a1 a2 m d (2 * k + 4) = d k := by
  have hodd : ¬ (2 * k + 1) % 2 = 0 := by omega
  have hhalf : (2 * k + 1) / 2 = k := by omega
  rw [waveformLength, if_neg hodd, hhalf]

theorem fitsBudget_waveformLength {T a0 a1 a2 : Nat} {m d : Nat → Nat} (h0 : a0 + 1 ≤ T)
    (h1 : 1 ≤ a1 ∧ a1 + 1 ≤ T) (h2 : 1 ≤ a2 ∧ a2 + 1 ≤ T)
    (hbit : ∀ j < 40, 1 ≤ m j ∧ m j + 1 ≤ T ∧ 1 ≤ d j ∧ d j + 1 ≤ T) :
    FitsBudget T (waveformLength a0 a1 a2 m d) where
  first := h0
  next
    | 0, _ => h1
    | 1, _ => h2
    | i + 2, hi => by
      obtain ⟨hm, hm', hd, hd'⟩ := hbit (i / 2) (by omega)
      rw [waveformLength]
      split_ifs
      · exact ⟨hm, hm'⟩
      · exact ⟨hd, hd'⟩

/-- Settles O35: the waveform is `runTicks_cleanWaveform`'s, with its counts taken phase by phase. -/
theorem cleanWaveformIsCaptured : Obligations.CleanWaveformIsCaptured := by
  intro s a0 a1 a2 m d hst hph hcnt T h0 h1 h2 hbit
  obtain ⟨u, hu, hframe, hpw⟩ := runTicks_cleanWaveform hst hph hcnt (fitsBudget_waveformLength h0 h1 h2 hbit)
  simp only [waveformLength_marker, waveformLength_data] at hu
  refine ⟨u, hu, ?_⟩
  rw [hframe]
  refine ⟨rfl, rfl, fun j hj => ?_, rfl, rfl, rfl, rfl, rfl, rfl, rfl, rfl, rfl⟩
  obtain ⟨hmw, hm⟩ := hpw (2 * j) (by omega)
  obtain ⟨hdw, hd⟩ := hpw (2 * j + 1) (by omega)
  exact ⟨hmw, hm.trans (waveformLength_marker ..), hdw, hd.trans (waveformLength_data ..)⟩

/-! ## The bound on the remaining ticks, state by state (R164, R173, R274) -/

theorem ticksLeft_capture {s : State} (hst : s.st = .wait) (hph : 2 < s.ph.toNat) :
    ticksLeft s = (s.timeoutUs.toNat - s.cnt.toNat) + (82 - s.ph.toNat) * s.timeoutUs.toNat + 41 := by
  rw [ticksLeft, hst]
  exact if_neg (Nat.not_le_of_lt hph)

theorem ticksLeft_handshake {s : State} (hst : s.st = .wait) (hph : s.ph.toNat ≤ 2) :
    ticksLeft s = (s.timeoutUs.toNat - s.cnt.toNat) + (2 - s.ph.toNat) * (s.timeoutUs.toNat - 1) +
      80 * s.timeoutUs.toNat + 41 := by
  rw [ticksLeft, hst]
  exact if_pos hph

theorem ticksLeft_startLow {s : State} (hst : s.st = .startLow) :
    ticksLeft s = (s.startLowMs.toNat * 1000 - s.cnt.toNat) + 1 + (3 * s.timeoutUs.toNat - 2) +
      80 * s.timeoutUs.toNat + 41 := by
  rw [ticksLeft, hst]

theorem ticksLeft_release {s : State} (hst : s.st = .release) :
    ticksLeft s = 1 + (3 * s.timeoutUs.toNat - 2) + 80 * s.timeoutUs.toNat + 41 := by
  rw [ticksLeft, hst]

theorem ticksLeft_decode {s : State} (hst : s.st = .decode) : ticksLeft s = (40 - s.k.toNat) + 1 := by
  rw [ticksLeft, hst]

theorem ticksLeft_finish {s : State} (hst : s.st = .finish) : ticksLeft s = 1 := by
  rw [ticksLeft, hst]

theorem ticksLeft_idle {s : State} (hst : s.st = .idle) : ticksLeft s = 0 := by
  rw [ticksLeft, hst]

/-- A running acquisition has a tick left. -/
theorem ticksLeft_pos {s : State} (hb : s.st ≠ .idle) : 0 < ticksLeft s := by
  unfold ticksLeft
  cases hst : s.st with
  | idle => exact absurd hst hb
  | wait =>
    dsimp only
    split <;> exact Nat.succ_pos _
  | _ => exact Nat.succ_pos _

/-- The end of an acquisition is below the bound. -/
theorem ticksLeft_lt_of_idle {s u : State} (hu : u.st = .idle) (hb : s.st ≠ .idle) : ticksLeft u < ticksLeft s := by
  rw [ticksLeft_idle hu]
  exact ticksLeft_pos hb

/-- R164: one more sample of a wait. -/
theorem ticksLeft_waitCount {s : State} (hst : s.st = .wait) (hc : s.cnt.toNat + 1 < s.timeoutUs.toNat) :
    ticksLeft { s with cnt := s.cnt + 1 } < ticksLeft s := by
  have hT := s.timeoutUs.isLt
  have hsucc : (s.cnt + 1).toNat = s.cnt.toNat + 1 := cnt_succ_toNat (by omega)
  by_cases hph : s.ph.toNat ≤ 2
  · rw [ticksLeft_handshake hst hph, ticksLeft_handshake (s := { s with cnt := s.cnt + 1 }) hst hph]
    dsimp only
    omega
  · have hph' := Nat.lt_of_not_le hph
    rw [ticksLeft_capture hst hph', ticksLeft_capture (s := { s with cnt := s.cnt + 1 }) hst hph']
    dsimp only
    omega

/-- R274: the next handshake phase, or the first capture phase after phase 2, which has one sample already. -/
theorem ticksLeft_nextHandshake {s : State} (hst : s.st = .wait) (hph : s.ph.toNat ≤ 2)
    (hc : s.cnt.toNat < s.timeoutUs.toNat) : ticksLeft { s with ph := s.ph + 1, cnt := 1 } < ticksLeft s := by
  have hsucc := ph_succ_toNat (s := s) (hph.trans (by decide))
  rw [ticksLeft_handshake hst hph]
  by_cases hlast : s.ph.toNat = 2
  · rw [hlast] at hsucc ⊢
    rw [ticksLeft_capture (s := { s with ph := s.ph + 1, cnt := 1 }) hst (hsucc.symm ▸ Nat.lt_succ_self 2)]
    dsimp only
    rw [hsucc]
    omega
  · have hone : (1 : BitVec 18).toNat = 1 := rfl
    have hsplit : 2 - s.ph.toNat = 2 - (s.ph.toNat + 1) + 1 := by omega
    rw [ticksLeft_handshake (s := { s with ph := s.ph + 1, cnt := 1 }) hst (by dsimp only; omega)]
    dsimp only
    rw [hsucc, hsplit, Nat.succ_mul (2 - _), hone]
    omega

/-- R164, R169: a capture phase that ends leaves the budgets of the phases after it. -/
theorem ticksLeft_advanceCapture {s : State} (hst : s.st = .wait) (hlo : 2 < s.ph.toNat) (hhi : s.ph.toNat ≤ 82)
    (hc : s.cnt.toNat < s.timeoutUs.toNat) (c : BitVec 18) : ticksLeft (advanceCapture c s) < ticksLeft s := by
  rw [ticksLeft_capture hst hlo]
  by_cases hlast : s.ph.toNat = 82
  · rw [advanceCapture_last hlast, ticksLeft_decode rfl]
    dsimp only
    omega
  · have hlt := Nat.lt_of_le_of_ne hhi hlast
    have hsucc := ph_succ_toNat hhi
    have hsplit : 82 - s.ph.toNat = 82 - (s.ph.toNat + 1) + 1 := by omega
    rw [advanceCapture_inner hlt, ticksLeft_capture (s := { s with ph := s.ph + 1, cnt := c }) hst
      (by dsimp only; omega)]
    dsimp only
    rw [hsucc, hsplit, Nat.succ_mul (82 - _)]
    omega

/-- R143: the release begins phase 0 with R274's whole sum for WAIT. -/
theorem ticksLeft_waitBegins {s : State} (hT : 2 ≤ s.timeoutUs.toNat) :
    ticksLeft { s with st := .wait, ph := 0, cnt := 0 } =
      (3 * s.timeoutUs.toNat - 2) + 80 * s.timeoutUs.toNat + 41 := by
  rw [ticksLeft_handshake (s := { s with st := .wait, ph := 0, cnt := 0 }) rfl (Nat.zero_le 2)]
  change s.timeoutUs.toNat - 0 + 2 * (s.timeoutUs.toNat - 1) + 80 * s.timeoutUs.toNat + 41 = _
  omega

/-- Every tick of a running acquisition lowers the bound, effect by effect. -/
theorem TickEffect.ticksLeft_lt {l : Bool} {s u : State} (h : TickEffect l s u) (hs : Inv s) (hb : s.st ≠ .idle) :
    ticksLeft u < ticksLeft s := by
  have hT := hs.budgetLegal
  cases h with
  | idle hst => exact absurd hst hb
  | lowCount hst hc =>
    have hlt := hs.cntStartLow hst
    have hsucc := startLow_cnt_succ_toNat (s := s) (by omega)
    rw [ticksLeft_startLow hst, ticksLeft_startLow (s := { s with cnt := s.cnt + 1 }) hst]
    dsimp only
    omega
  | lowEnd hst hc =>
    rw [ticksLeft_startLow hst, ticksLeft_release rfl]
    dsimp only
    omega
  | release hst =>
    rw [ticksLeft_release hst, ticksLeft_waitBegins hT]
    omega
  | waitCount hst _ hc => exact ticksLeft_waitCount (s := { s with dqS := l }) hst hc
  | handshake hst _ hph => exact ticksLeft_nextHandshake (s := { s with dqS := l }) hst hph (hs.cntWait hst)
  | recordWidth i hi hst _ hph =>
    exact ticksLeft_advanceCapture (s := { s with dqS := l, pw := _ }) hst (by dsimp only; omega) hs.phaseRange
      (hs.cntWait hst) 1
  | recordSentinel i hi hst _ _ hph =>
    exact ticksLeft_advanceCapture (s := { s with dqS := l, pw := _ }) hst (by dsimp only; omega) hs.phaseRange
      (hs.cntWait hst) 0
  | bitNext m d hst _ _ _ _ hk =>
    have hrange := hs.bitRange
    have hsucc := k_succ_toNat hrange
    rw [ticksLeft_decode hst, ticksLeft_decode (s := { s with sr := _, k := s.k + 1 }) hst]
    dsimp only
    omega
  | bitLast m d hst _ _ _ _ hk =>
    rw [ticksLeft_decode hst, ticksLeft_finish rfl, hk]
    decide
  | _ =>
    -- Every other effect ends the acquisition.
    exact ticksLeft_lt_of_idle rfl hb

/-- A tick that ends a running acquisition sets DONE. -/
theorem TickCompletion.done_of_idle {s u : State} (h : TickCompletion s u) (hs : Inv s) (hb : s.st ≠ .idle)
    (hu : u.st = .idle) : u.done = true := by
  cases h with
  | running hbusy => exact absurd hu ((busy_iff _).1 (hbusy.trans ((busy_iff s).2 hb)))
  | illegal hst => exact absurd hst (not_or.2 hs.legalState)
  | success _ => rfl
  | failure _ _ _ _ _ => rfl

/-- Settles O50: a tick answers (`runTick_answers`), and its effect lowers the bound (`TickEffect.ticksLeft_lt`). -/
theorem everyBusyTickComesCloserToTheEnd : Obligations.EveryBusyTickComesCloserToTheEnd := by
  intro s l hs hb
  obtain ⟨u, hu⟩ := runTick_answers l hs
  have heffect := runTick_effect hu
  exact ⟨u, hu, heffect.ticksLeft_lt hs hb, heffect.completion.done_of_idle hs hb⟩

end Sys2Proof.Machine
end

section
/-! PROOFS of the statements about the decoding (43_decode.md): a decode tick case by case, the bits that a run of
decode ticks leaves in SR, and the finish tick. -/

namespace Sys2Proof.Machine

open Sys2Proof.Statements

/-! ## One decode tick (R191, R192) -/

section Tick

variable {s : State} {m d : Width}

/-- R192: a sentinel as the marker. -/
theorem execTickDecode_marker (hm : s.pw[2 * s.k.toNat]? = some (some m))
    (hd : s.pw[2 * s.k.toNat + 1]? = some (some d)) (hms : m = sentinel) :
    execTickDecode s = .next (completeFail .bitMarker s.k s) := by
  rw [execTickDecode, readPulse_written hm, readPulse_written hd, if_pos hms]

/-- R192: a sentinel as the data pulse, after a measured marker. -/
theorem execTickDecode_data (hm : s.pw[2 * s.k.toNat]? = some (some m))
    (hd : s.pw[2 * s.k.toNat + 1]? = some (some d)) (hms : m ≠ sentinel) (hds : d = sentinel) :
    execTickDecode s = .next (completeFail .bitData s.k s) := by
  rw [execTickDecode, readPulse_written hm, readPulse_written hd, if_neg hms, if_pos hds]

/-- R191: the last bit. -/
theorem execTickDecode_bitLast (hm : s.pw[2 * s.k.toNat]? = some (some m))
    (hd : s.pw[2 * s.k.toNat + 1]? = some (some d)) (hms : m ≠ sentinel) (hds : d ≠ sentinel)
    (hk : s.k.toNat = 39) :
    execTickDecode s = .next { s with sr := shiftIn s.sr (bitOf m d), st := .finish } := by
  have hlast : s.k = 39#6 := BitVec.eq_of_toNat_eq hk
  rw [execTickDecode, readPulse_written hm, readPulse_written hd, if_neg hms, if_neg hds, if_pos hlast]

/-- R191: every other bit. -/
theorem execTickDecode_bitNext (hm : s.pw[2 * s.k.toNat]? = some (some m))
    (hd : s.pw[2 * s.k.toNat + 1]? = some (some d)) (hms : m ≠ sentinel) (hds : d ≠ sentinel)
    (hk : s.k.toNat ≠ 39) :
    execTickDecode s = .next { s with sr := shiftIn s.sr (bitOf m d), k := s.k + 1 } := by
  have hinner : s.k ≠ 39#6 := fun h => hk (congrArg BitVec.toNat h)
  rw [execTickDecode, readPulse_written hm, readPulse_written hd, if_neg hms, if_neg hds, if_neg hinner]

end Tick

/-- Settles O37, case by case; the new SR is `shiftIn`'s (`shiftIn_toNat`). -/
theorem decodeTickReconstructsOneBit : Obligations.DecodeTickReconstructsOneBit := by
  refine fun s m d hm hd => ⟨execTickDecode_marker hm hd, execTickDecode_data hm hd, fun hms hds =>
    ⟨shiftIn s.sr (bitOf m d), ?_, execTickDecode_bitLast hm hd hms hds, execTickDecode_bitNext hm hd hms hds⟩⟩
  rw [shiftIn_toNat, bitOf_eq, Bool.toNat, Bool.cond_decide]

/-! ## Runs of decode ticks (R192 to R194, R207) -/

/-- The first `n` pulses are written, and none is a sentinel. -/
def measuredBelow (n : Nat) (pw : Vector (Option Width) 80) : Prop :=
  ∀ i < n, isWritten pw i = true ∧ pulseAt pw i ≠ sentinel

/-- The low `n` bits of `v` are the first `n` bits that the pulses spell, the first bit highest (R190, R194). -/
def endsWithBits (pw : Vector (Option Width) 80) (n : Nat) (v : Frame) : Prop :=
  ∀ j < n, v.getLsbD (n - 1 - j) = bitOf (pulseAt pw (2 * j)) (pulseAt pw (2 * j + 1))

/-- R193: shifting in bit `n` adds it below the `n` bits before it. -/
theorem endsWithBits.succ {pw : Vector (Option Width) 80} {n : Nat} {v : Frame} (h : endsWithBits pw n v)
    (hn : n < 40) :
    endsWithBits pw (n + 1) (shiftIn v (bitOf (pulseAt pw (2 * n)) (pulseAt pw (2 * n + 1)))) := by
  intro j hj
  rw [shiftIn_getLsbD, decide_eq_true (by omega), Bool.true_and]
  obtain rfl | hlt := Nat.eq_or_lt_of_le (Nat.le_of_lt_succ hj)
  · rw [if_pos (by omega)]
  · rw [if_neg (by omega), ← h j hlt]
    congr 1
    omega

/-- R194: all 40 bits fix the frame, whatever SR held before. -/
theorem endsWithBits.unique {pw pw' : Vector (Option Width) 80} {v v' : Frame} (h : endsWithBits pw 40 v)
    (h' : endsWithBits pw' 40 v') (hbits : ∀ j < 40, bitOf (pulseAt pw (2 * j)) (pulseAt pw (2 * j + 1)) =
      bitOf (pulseAt pw' (2 * j)) (pulseAt pw' (2 * j + 1))) : v = v' := by
  refine BitVec.eq_of_getLsbD_eq fun i hi => ?_
  have hj : 39 - i < 40 := by omega
  have hbit := ((h _ hj).trans (hbits _ hj)).trans (h' _ hj).symm
  rwa [show 40 - 1 - (39 - i) = i by omega] at hbit

/-- Fewer than 40 decode ticks over measured pulses stay in DECODE, one bit each, by induction on the ticks. -/
theorem runTicks_decodeBits {s : State} {levels : List Bool} {n : Nat} (hst : s.st = .decode) (hk : s.k = 0)
    (hpw : measuredBelow n s.pw) (hn : 2 * levels.length ≤ n) (hlt : levels.length < 40) :
    ∃ (v : Frame) (k : BitVec 6), runTicks levels s = .next { s with sr := v, k := k } ∧
      k.toNat = levels.length ∧ endsWithBits s.pw levels.length v := by
  induction levels using List.reverseRecOn with
  | nil => exact ⟨s.sr, s.k, rfl, congrArg BitVec.toNat hk, nofun⟩
  | append_singleton ls l ih =>
    rw [List.length_append, List.length_singleton] at hn hlt ⊢
    obtain ⟨v, k, hrun, hkn, hv⟩ := ih (by omega) (by omega)
    obtain ⟨hmw, hm⟩ := hpw (2 * ls.length) (by omega)
    obtain ⟨hdw, hd⟩ := hpw (2 * ls.length + 1) (by omega)
    rw [← hkn] at hmw hm hdw hd
    have htick := (runTick_decode (l := l) (s := { s with sr := v, k := k }) hst).trans
      (execTickDecode_bitNext (pulse_cases _ hmw) (pulse_cases _ hdw) hm hd (by dsimp only; omega))
    refine ⟨_, _, runTicks_trans hrun (runTicks_one htick), ?_, ?_⟩
    · exact (k_succ_toNat (s := { s with k := k }) (by dsimp only; omega)).trans (congrArg (· + 1) hkn)
    · dsimp only
      rw [hkn]
      exact hv.succ (by omega)

/-- R194: 40 decode ticks over measured pulses end in FINISH with all 40 bits in SR. -/
theorem runTicks_decodeFrame {s : State} {levels : List Bool} (hst : s.st = .decode) (hk : s.k = 0)
    (hpw : allMeasured s.pw) (hn : levels.length = 40) :
    ∃ (v : Frame) (k : BitVec 6), runTicks levels s = .next { s with sr := v, k := k, st := .finish } ∧
      endsWithBits s.pw 40 v := by
  obtain ⟨ls, l, rfl, hls⟩ := exists_append_singleton hn
  obtain ⟨v, k, hrun, hkn, hv⟩ := runTicks_decodeBits (levels := ls) hst hk hpw (by omega) (by omega)
  rw [hls] at hkn hv
  obtain ⟨hmw, hm⟩ := hpw 78 (by decide)
  obtain ⟨hdw, hd⟩ := hpw 79 (by decide)
  have hm' := pulse_cases _ hmw
  have hd' := pulse_cases _ hdw
  have htick := (runTick_decode (l := l) (s := { s with sr := v, k := k }) hst).trans
    (execTickDecode_bitLast (hkn ▸ hm') (hkn ▸ hd') hm hd hkn)
  exact ⟨_, k, runTicks_trans hrun (runTicks_one htick), hv.succ (by decide)⟩

/-- R192: the decode tick of the bit whose marker or data pulse is the first sentinel. -/
theorem execTickDecode_firstSentinel {s : State} {i : Nat} (hw : ∀ j < 80, isWritten s.pw j = true) (hi : i < 80)
    (hs : pulseAt s.pw i = sentinel) (hfirst : ∀ j < i, pulseAt s.pw j ≠ sentinel) (hk : s.k.toNat = i / 2) :
    execTickDecode s = .next (completeFail (if i % 2 = 0 then .bitMarker else .bitData) s.k s) := by
  have hm := pulse_cases s.pw (hw (2 * s.k.toNat) (by omega))
  have hd := pulse_cases s.pw (hw (2 * s.k.toNat + 1) (by omega))
  by_cases heven : i % 2 = 0
  · have hpos : 2 * s.k.toNat = i := by omega
    rw [if_pos heven]
    exact execTickDecode_marker hm hd (hpos ▸ hs)
  · have hpos : 2 * s.k.toNat + 1 = i := by omega
    rw [if_neg heven]
    exact execTickDecode_data hm hd (hfirst _ (by omega)) (hpos ▸ hs)

/-- Settles O39: the bits before the sentinel's are decoded (`runTicks_decodeBits`), and its own tick fails
(`execTickDecode_firstSentinel`). -/
theorem decodeReportsTheFirstSentinel : Obligations.DecodeReportsTheFirstSentinel := by
  intro s i levels hst hk hw hi hs hfirst
  have hpw : measuredBelow i s.pw := fun j hj => ⟨hw j (by omega), hfirst j hj⟩
  refine ⟨fun hle => ?_, fun hlen => ?_⟩
  · obtain ⟨v, k, hrun, -⟩ := runTicks_decodeBits (levels := levels) hst hk hpw (by omega) (by omega)
    exact ⟨_, hrun, hst⟩
  · obtain ⟨ls, l, rfl, hls⟩ := exists_append_singleton hlen
    obtain ⟨v, k, hrun, hkn, -⟩ := runTicks_decodeBits (levels := ls) hst hk hpw (by omega) (by omega)
    have htick := (runTick_decode (l := l) (s := { s with sr := v, k := k }) hst).trans
      (execTickDecode_firstSentinel hw hi hs hfirst (hkn.trans hls))
    exact ⟨_, runTicks_trans hrun (runTicks_one htick), rfl, rfl, rfl, rfl, rfl, hkn.trans hls, rfl⟩

/-- Settles O40: `runTicks_decodeFrame`. -/
theorem decodeAlignsTheFrame : Obligations.DecodeAlignsTheFrame := by
  intro s levels hst hk hpw hn
  obtain ⟨v, k, hrun, hv⟩ := runTicks_decodeFrame hst hk hpw hn
  exact ⟨_, hrun, rfl, hv⟩

/-- R190, R207: only the relation of the two widths matters. -/
theorem bitOf_scale {c : Nat} (hc : 0 < c) {m d m' d' : Width} (hm : m'.toNat = c * m.toNat)
    (hd : d'.toNat = c * d.toNat) : bitOf m' d' = bitOf m d := by
  rw [bitOf_eq, bitOf_eq, hm, hd, decide_eq_decide]
  exact Nat.mul_lt_mul_left hc

/-- Settles O41: both runs end with the bits that the pulses spell (`runTicks_decodeFrame`), and these are the same
(`bitOf_scale`). -/
theorem decodingIsScaleInvariant : Obligations.DecodingIsScaleInvariant := by
  intro s₁ s₂ u₁ u₂ c levels hc hst₁ hk₁ hst₂ hk₂ hpw₁ hpw₂ hscale hn hrun₁ hrun₂
  obtain ⟨v₁, k₁, h₁, hv₁⟩ := runTicks_decodeFrame hst₁ hk₁ hpw₁ hn
  obtain ⟨v₂, k₂, h₂, hv₂⟩ := runTicks_decodeFrame hst₂ hk₂ hpw₂ hn
  cases hrun₁.symm.trans h₁
  cases hrun₂.symm.trans h₂
  exact hv₁.unique hv₂ fun j hj => (bitOf_scale hc (hscale _ (by omega)) (hscale _ (by omega))).symm

/-! ## The finish tick (R195 to R199) -/

/-- R199. -/
theorem exec_tickFinish_good {s : State} (h : checksumGood s.sr = true) :
    exec .tickFinish s = .next (completeOk s) :=
  if_pos h

/-- R198, R232. -/
theorem exec_tickFinish_bad {s : State} (h : ¬ checksumGood s.sr = true) :
    exec .tickFinish s = .next (completeFail .checksum 0 s) :=
  if_neg h

/-- Settles O42, by the two cases of the checksum (`checksumGood_iff`). -/
theorem finishTickCommitsOrRejects : Obligations.FinishTickCommitsOrRejects := fun s =>
  ⟨fun h => exec_tickFinish_good ((checksumGood_iff s.sr).2 h),
    fun h => exec_tickFinish_bad (mt (checksumGood_iff s.sr).1 h)⟩

/-- Settles O43: in FINISH the invariant fixes SR by the pulses (`Inv.srDecoded`), and the finish tick goes by SR. -/
theorem committedFrameDependsOnlyOnThePulses : Obligations.CommittedFrameDependsOnlyOnThePulses := by
  intro s₁ s₂ u₁ u₂ hs₁ hs₂ hst₁ hst₂ hpw hu₁ hu₂
  have hsr : s₁.sr = s₂.sr := by rw [(hs₁.srDecoded hst₁).1, (hs₂.srDecoded hst₂).1, hpw]
  by_cases hgood : checksumGood s₁.sr = true
  · cases hu₁.symm.trans (exec_tickFinish_good hgood)
    cases hu₂.symm.trans (exec_tickFinish_good (hsr ▸ hgood))
    exact ⟨rfl, fun _ => hsr, nofun⟩
  · cases hu₁.symm.trans (exec_tickFinish_bad hgood)
    cases hu₂.symm.trans (exec_tickFinish_bad (hsr ▸ hgood))
    exact ⟨rfl, nofun, fun _ => ⟨rfl, rfl⟩⟩

end Sys2Proof.Machine
end

section
/-! PROOFS of the exception statements (60_exceptions.md): the illegal state codes. -/

namespace Sys2Proof.Machine

/-- R245: TICK_ILLEGAL writes `st` alone. -/
theorem exec_tickIllegal (low : Bool) (s : State) : exec (.tickIllegal low) s = .next { s with st := .idle } := rfl

/-- R21: only START_LOW and RELEASE drive the line, so the illegal codes leave it released. -/
theorem dqOe_illegal {s : State} (h : s.st = .illegal6 ∨ s.st = .illegal7) : dqOe s = false := by
  rw [Bool.eq_false_iff, Ne, dqOe_iff]
  rcases h with h | h <;> simp [h]

/-- Settles O44: the operation is `exec_tickIllegal`; in the two states the line is `dqOe_illegal` and every tick is
`runTick_illegal`. -/
theorem illegalCodesReturnToIdle : Obligations.IllegalCodesReturnToIdle := fun s low =>
  ⟨exec_tickIllegal low s, fun h => ⟨dqOe_illegal h, fun _ => runTick_illegal h⟩⟩

end Sys2Proof.Machine
end

section
/-! PROOFS of the statements about reset and hazards (70_reset_and_hazards.md): the reset cycle, the configuration while
busy, a STATUS write in the cycle of a completing tick, and whole acquisitions, over a clean waveform and over any
line. -/

namespace Sys2Proof.Machine

open Sys2Proof.Statements

/-! ## The reset cycle (R260) -/

/-- Settles O56: the cycle is `resetBlock`, whose fields compute. -/
theorem resetCycleOverridesEverything : Obligations.ResetCycleOverridesEverything := fun p s hr =>
  have hreset : runCycle p s = .next (resetBlock s) := if_pos hr
  ⟨hreset, _, hreset, rfl, rfl, rfl, rfl, rfl, rfl, rfl, rfl, rfl, rfl⟩

/-! ## The configuration while busy (R267) -/

/-- The two configuration fields are the same. -/
def sameConfig (s u : State) : Prop := u.timeoutUs = s.timeoutUs ∧ u.startLowMs = s.startLowMs

theorem TickEffect.sameConfig {l : Bool} {s u : State} (h : TickEffect l s u) : sameConfig s u := by
  obtain ⟨hT, hN, -⟩ := h.frame
  exact ⟨hT, hN⟩

theorem HostEffect.sameConfig {i : Instr} {s u : State} (h : HostEffect i s u) (hb : s.st ≠ .idle) :
    sameConfig s u := by
  rw [(h.busy hb).1]
  exact ⟨rfl, rfl⟩

/-- A clock edge without an accepted START is a tick or counts PRESC. -/
theorem sameConfig_clockEdge {dq : Bool} {s u : State} (h : clockEdge dq false s = .next u) : sameConfig s u := by
  by_cases hlast : s.presc + 1 = Config.clkPerUs
  · rw [clockEdge_last dq hlast] at h
    exact (runTick_effect h).sameConfig
  · rw [clockEdge_inner dq hlast] at h
    cases h
    exact ⟨rfl, rfl⟩

/-- Settles O53, event by event: a transaction by `HostEffect.busy`, a tick by `TickEffect.frame`, and a cycle while
busy is a clock edge (`runCycle_busy`). -/
theorem configurationIsConstantWhileBusy : Obligations.ConfigurationIsConstantWhileBusy := by
  intro e s u hb hreset hcycle h
  change sameConfig s u
  cases e with
  | host t => exact (runTransaction_effect h).sameConfig hb
  | access a =>
    obtain ⟨t, ht⟩ | hn := runAccess_cases a s
    · exact (runTransaction_effect (ht.symm.trans h)).sameConfig hb
    · cases hn.symm.trans h
      exact ⟨rfl, rfl⟩
  | tick l => exact (runTick_effect h).sameConfig
  | reset => exact absurd rfl hreset
  | cycle p =>
    obtain ⟨dn, v, e, dq, hedge⟩ := runCycle_busy (hcycle p rfl) hb
    exact sameConfig_clockEdge (s := { s with done := dn, rdata := v, busErr := e }) (hedge.symm.trans h)

/-! ## No tick reads or writes the bus answer -/

section Answer

variable (v : Word)

theorem advanceCapture_respond (c : BitVec 18) (s : State) :
    advanceCapture c (respond v s) = respond v (advanceCapture c s) := by
  unfold advanceCapture
  rw [respond_ph]
  split <;> rfl

/-- Recording a pulse and ending its phase (R167, R168). -/
theorem recordPulse_respond (i : Nat) (w : Width) (c : BitVec 18) (s : State) :
    andThen (writePulse i w (respond v s)) (fun t => .next (advanceCapture c t)) =
      andThen (andThen (writePulse i w s) fun t => .next (advanceCapture c t)) fun t => .next (respond v t) := by
  unfold writePulse
  split
  · exact congrArg _ (advanceCapture_respond v c { s with pw := _ })
  · rfl

theorem phaseDone_respond (w : BitVec 18) (s : State) :
    phaseDone w (respond v s) = andThen (phaseDone w s) fun t => .next (respond v t) := by
  unfold phaseDone
  rw [andThen_ite, ← recordPulse_respond]
  rfl

theorem phaseTimeout_respond (s : State) :
    phaseTimeout (respond v s) = andThen (phaseTimeout s) fun t => .next (respond v t) := by
  unfold phaseTimeout
  rw [respond_ph]
  split
  · rfl
  · rfl
  · rfl
  · exact recordPulse_respond v ..

theorem execTickWait_respond (s : State) :
    execTickWait (respond v s) = andThen (execTickWait s) fun t => .next (respond v t) := by
  unfold execTickWait
  rw [andThen_ite, andThen_ite, ← phaseDone_respond, ← phaseTimeout_respond]
  rfl

theorem execTickDecode_respond (s : State) :
    execTickDecode (respond v s) = andThen (execTickDecode s) fun t => .next (respond v t) := by
  unfold execTickDecode
  simp only [andThen_readPulse, andThen_ite]
  rfl

theorem execTickStartLow_respond (s : State) :
    execTickStartLow (respond v s) = andThen (execTickStartLow s) fun t => .next (respond v t) := by
  unfold execTickStartLow
  rw [andThen_ite]
  rfl

theorem execTickFinish_respond (s : State) :
    execTickFinish (respond v s) = andThen (execTickFinish s) fun t => .next (respond v t) := by
  unfold execTickFinish
  rw [andThen_ite]
  rfl

theorem sampleLine_respond (l : Bool) (s : State) :
    sampleLine l (respond v s) = respond v (sampleLine l s) := by
  unfold sampleLine
  rw [respond_st]
  split <;> rfl

/-- The answer is the bus's alone (R80): no tick reads or writes it. -/
theorem runTick_respond (l : Bool) (s : State) :
    runTick l (respond v s) = andThen (runTick l s) fun t => .next (respond v t) := by
  unfold runTick
  rw [sampleLine_respond, respond_st]
  generalize sampleLine l s = t
  cases s.st with
  | idle | release | illegal6 | illegal7 => rfl
  | startLow => exact execTickStartLow_respond v t
  | wait => exact execTickWait_respond v t
  | decode => exact execTickDecode_respond v t
  | finish => exact execTickFinish_respond v t

theorem clockEdge_respond (dq : Bool) (s : State) :
    clockEdge dq false (respond v s) = andThen (clockEdge dq false s) fun t => .next (respond v t) := by
  by_cases hlast : s.presc + 1 = Config.clkPerUs
  · rw [clockEdge_last dq hlast, clockEdge_last dq (s := respond v s) hlast]
    exact runTick_respond v _ { clockSync dq s with presc := 0 }
  · rw [clockEdge_inner dq hlast, clockEdge_inner dq (s := respond v s) hlast]
    rfl

end Answer

/-! ## A STATUS write in the cycle of the completing tick (R269) -/

/-- R105: with DONE already 0 a STATUS write only answers. -/
theorem exec_wrStatus_done_false (d : Word) {s : State} (h : s.done = false) :
    exec (.wrStatus d) s = .next (respond 0 s) := by
  have hclear : clearDone s = s := by rw [clearDone, ← h]
  rw [exec, execWrStatus, hclear, ite_self]

/-- R10: with DONE 0 before it, the cycle of a STATUS write is the cycle without a transaction, but for the answer. -/
theorem runCycle_wrStatus {t : TxWord} {d : Word} (ht : decodeBus t = .wrStatus d) (ext : Bool) {s : State}
    (h : s.done = false) :
    runCycle ⟨true, some t, ext⟩ s =
      andThen (runCycle ⟨true, none, ext⟩ s) fun u => .next (respond 0 u) := by
  have hstart : isAcceptedStart t s = false := by rw [isAcceptedStart, ht]
  rw [runCycle_transaction, runTransaction, ht, exec_wrStatus_done_false d h, hstart, andThen_next]
  exact clockEdge_respond 0 _ s

/-- Settles O57: the write clears nothing before the tick, and the tick's result does not depend on the answer
(`runCycle_wrStatus`). -/
theorem completionWinsOverDoneClear : Obligations.CompletionWinsOverDoneClear := by
  intro s u v t d ext _ ht hu hidle hdone hzero hv
  rw [runCycle_wrStatus ht ext hzero, hu] at hv
  cases hv
  exact ⟨hdone, hidle, rfl, rfl, rfl, rfl, rfl⟩

/-! ## Every acquisition ends (R274) -/

/-- As many ticks as the bound says end a running acquisition, by induction on the samples: each tick lowers the bound
(O50). -/
theorem acquisitionEnds {s : State} (levels : List Bool) (hs : Inv s) (hb : s.st ≠ .idle)
    (hle : ticksLeft s ≤ levels.length) :
    ∃ n ≤ levels.length, ∃ u, runTicks (levels.take n) s = .next u ∧ acquisitionEnded u = true := by
  induction levels generalizing s with
  | nil => exact absurd hle (Nat.not_le.2 (ticksLeft_pos hb))
  | cons l ls ih =>
    rw [List.length_cons] at hle ⊢
    obtain ⟨v, hv, hlt, hdone⟩ := everyBusyTickComesCloserToTheEnd s l hs hb
    by_cases hidle : v.st = .idle
    · refine ⟨1, Nat.le_add_left .., v, runTicks_one hv, ?_⟩
      simp [acquisitionEnded, hdone hidle, busy, hidle]
    · obtain ⟨n, hn, u, hu, hended⟩ := ih ((runTick_effect hv).inv hs) hidle (by omega)
      refine ⟨n + 1, Nat.succ_le_succ hn, u, ?_, hended⟩
      rw [List.take_succ_cons, runTicks_cons, hv, andThen_next, hu]

/-- Settles O49: the bound of the state that an accepted START leaves is R274's sum (`ticksLeft_startLow`). -/
theorem everyAcquisitionEnds : Obligations.EveryAcquisitionEnds := by
  intro s levels hs hst hcnt N T hlen
  have hzero : s.cnt.toNat = 0 := by rw [hcnt]; rfl
  refine acquisitionEnds levels hs (by simp [hst]) ?_
  rw [ticksLeft_startLow hst, hzero, hlen, Nat.sub_zero]

/-! ## A whole acquisition of a clean waveform (R271, R273) -/

/-- R142, R143: N + 1 ticks take an accepted START to the first wait. -/
theorem runTicks_startCondition {s : State} {before : List Bool} (hs : Inv s) (hst : s.st = .startLow)
    (hcnt : s.cnt = 0) (hlen : before.length = s.startLowMs.toNat * 1000 + 1) :
    runTicks before s = .next { s with st := .wait, ph := 0, cnt := 0 } := by
  obtain ⟨ls, l, rfl, hls⟩ := exists_append_singleton hlen
  exact runTicks_trans (runTicks_startLow_exact hst hcnt hs.startLowLegal hls) (runTicks_one (runTick_release rfl))

/-- R164: a width within the budget is no sentinel. -/
theorem recordsWidths.allMeasured {T : BitVec 16} {w : Nat → Nat} {pw : Vector (Option Width) 80}
    (h : recordsWidths w 80 pw) (hw : FitsBudget T.toNat w) : allMeasured pw := by
  intro i hi
  obtain ⟨hwritten, hwidth⟩ := h i hi
  refine ⟨hwritten, fun hsentinel => ?_⟩
  have hlt := hw.lt (i + 3) (by omega)
  have hT := T.isLt
  rw [hsentinel] at hwidth
  change 65535 = w (i + 3) at hwidth
  omega

/-- R190, R194: the recorded pulses of R174's waveform spell the frame that its relative widths give. -/
theorem recordsWidths.endsWithBits {a0 a1 a2 : Nat} {m d : Nat → Nat} {pw : Vector (Option Width) 80} {f : Frame}
    (h : recordsWidths (waveformLength a0 a1 a2 m d) 80 pw)
    (hf : ∀ j < 40, f.getLsbD (39 - j) = decide (m j < d j)) : endsWithBits pw 40 f := by
  intro j hj
  rw [bitOf_eq, (h (2 * j) (by omega)).2, (h (2 * j + 1) (by omega)).2, waveformLength_marker, waveformLength_data]
  exact hf j hj

/-- R174, R194: from the first wait, the clean waveform and 40 ticks reach FINISH with the frame `f` in SR. -/
theorem runTicks_cleanFrame {s : State} {a0 a1 a2 : Nat} {m d : Nat → Nat} {f : Frame} {levels : List Bool}
    (hst : s.st = .wait) (hph : s.ph = 0) (hcnt : s.cnt = 0)
    (hw : FitsBudget s.timeoutUs.toNat (waveformLength a0 a1 a2 m d))
    (hf : ∀ j < 40, f.getLsbD (39 - j) = decide (m j < d j)) (hlen : levels.length = 40) :
    ∃ u, runTicks (cleanWaveform a0 a1 a2 m d ++ levels) s = .next u ∧ u.st = .finish ∧ u.sr = f ∧
      u.lf = s.lf := by
  obtain ⟨t, ht, hframe, hpw⟩ := runTicks_cleanWaveform hst hph hcnt hw
  simp only [waveformLength_marker, waveformLength_data] at ht
  obtain ⟨hdecode, hk, hlf⟩ : t.st = .decode ∧ t.k = 0 ∧ t.lf = s.lf := by
    rw [hframe]
    exact ⟨rfl, rfl, rfl⟩
  obtain ⟨v, k, hv, hbits⟩ := runTicks_decodeFrame hdecode hk (hpw.allMeasured hw) hlen
  exact ⟨_, runTicks_trans ht hv, rfl, hbits.unique (hpw.endsWithBits hf) fun _ _ => rfl, hlf⟩

/-- A run that ends busy was busy all along: an idle block stays idle (R141). -/
theorem runTicks_take_busy {levels : List Bool} {s u : State} (n : Nat) (h : runTicks levels s = .next u)
    (hb : u.st ≠ .idle) : ∃ w, runTicks (levels.take n) s = .next w ∧ w.st ≠ .idle := by
  rw [← List.take_append_drop n levels, runTicks_append] at h
  obtain ⟨w, hw, hrest⟩ := andThen_eq_next.1 h
  refine ⟨w, hw, fun hidle => hb ?_⟩
  cases (runTicks_idle _ hidle).symm.trans hrest
  exact hidle

/-- R195: the finish tick over the frame in SR, by the two cases of the checksum. -/
theorem runTick_finish_frame {s : State} (l : Bool) (hst : s.st = .finish) :
    let sum := byteNat s.sr 0 + byteNat s.sr 1 + byteNat s.sr 2 + byteNat s.sr 3
    ∃ u, runTick l s = .next u ∧ u.st = .idle ∧ u.done = true ∧ u.errBit = 0 ∧
      (sum % 256 = byteNat s.sr 4 → u.lf = s.sr ∧ u.ok = true ∧ u.valid = true ∧ u.err = .none) ∧
      (sum % 256 ≠ byteNat s.sr 4 → u.lf = s.lf ∧ u.ok = false ∧ u.valid = false ∧ u.err = .checksum) := by
  intro sum
  obtain ⟨hgood, hbad⟩ := finishTickCommitsOrRejects s
  rw [runTick_finish hst]
  by_cases hsum : sum % 256 = byteNat s.sr 4
  · exact ⟨_, hgood hsum, rfl, rfl, rfl, fun _ => ⟨rfl, rfl, rfl, rfl⟩, absurd hsum⟩
  · exact ⟨_, hbad hsum, rfl, rfl, rfl, fun h => absurd h hsum, fun _ => ⟨rfl, rfl, rfl, rfl⟩⟩

/-- Settles O45: all ticks but the last reach FINISH with the frame in SR (`runTicks_startCondition`,
`runTicks_cleanFrame`), so none of them is idle (`runTicks_take_busy`), and the last one is the finish tick. -/
theorem cleanAcquisitionCompletesExactly : Obligations.CleanAcquisitionCompletesExactly := by
  intro s a0 a1 a2 m d f before after hs hst hcnt T h0 h1 h2 hbit hf hbefore hafter levels sum
  obtain ⟨bits, l, rfl, hbits⟩ := exists_append_singleton hafter
  obtain ⟨v, hv, hfinish, rfl, hlf⟩ := runTicks_cleanFrame (s := { s with st := .wait, ph := 0, cnt := 0 })
    rfl rfl rfl (fitsBudget_waveformLength h0 h1 h2 hbit) hf hbits
  have hrun := runTicks_trans (runTicks_startCondition hs hst hcnt hbefore) hv
  have hlevels : levels = (before ++ (cleanWaveform a0 a1 a2 m d ++ bits)) ++ [l] := by
    simp only [levels, List.append_assoc]
  rw [hlevels]
  refine ⟨fun n hn => ?_, ?_⟩
  · rw [List.length_append, List.length_singleton] at hn
    rw [List.take_append_of_le_length (Nat.le_of_lt_succ hn)]
    exact runTicks_take_busy n hrun (by simp [hfinish])
  · obtain ⟨u, hu, hend⟩ := runTick_finish_frame l hfinish
    rw [hlf] at hend
    exact ⟨u, runTicks_trans hrun (runTicks_one hu), hend⟩

end Sys2Proof.Machine
end
